-- ==== Sys2Proof/Word.lean ====
section
/-! DEFINITION. The two word types of the hardware (R10, R12): a byte moves on the bus, a 16-bit word
is an address or a register pair. -/

namespace Sys2Proof

/-- An unsigned 8-bit value: the general registers and every bus access (R10, R80). -/
abbrev Byte := BitVec 8

/-- An unsigned 16-bit value: addresses, register pairs, SP and PC (R10, R36, R37). -/
abbrev Word := BitVec 16

end Sys2Proof
end

