-- ==== Sys2Proof/Config.lean ====
section
/-! DEFINITION. What a platform fixes: the parameters of rule R10 as one plain record, which `State.cfg`
carries and no step changes, and the free values of the spec, which nothing in Lean can evaluate. -/

namespace Sys2Proof

/-- `BOOT_MODE` (R10, R54): which column of reset values construction takes. -/
inductive BootMode where
  | postBoot
  | bootRom
deriving DecidableEq, Repr

/-- `STOP_WAKE` (R10, R162): whether a pending request wakes STOPPED while IME = 0. -/
inductive StopWake where
  | pending
  | never
deriving DecidableEq, Repr

/-- `LDHL_SPE_INTERNAL` (R10, R246): the internal cycles of `LD HL,SP+e8`. -/
inductive LdhlSpeInternal where
  | one
  | two
deriving DecidableEq, Repr

/-- The addresses from `first` to `last`, both included (R71: "contiguous ranges"). -/
structure AddrRange where
  first : Word
  last  : Word
deriving DecidableEq, Repr

/-- What an attached device is to this block. `ram` returns the most recent write (R90). `peripheral`
is a device whose behaviour the spec does not give (R6, R73): it answers a free value. -/
inductive DeviceKind where
  | ram
  | peripheral
deriving DecidableEq, Repr

/-- An attached device: the set of addresses it owns and what it is (R71). -/
structure Device where
  kind   : DeviceKind
  ranges : List AddrRange
deriving DecidableEq, Repr

/-- Who answers an address (R73, R75). -/
inductive Owner where
  | cpu
  | ram
  | peripheral
deriving DecidableEq, Repr

/-- One thing the external callback does in a machine cycle (R9, R385): request interrupt `i`, or reach a
device through the router. -/
inductive ExtEvent where
  | request (i : Fin 5)
  | read (addr : Word)
  | write (addr : Word) (v : Byte)
deriving DecidableEq, Repr

/-- What the callback does in every call after the first ones (R9, log 7): nothing, the calls of a list over and
over, or what platform number `n` does, an unknown function of the peripheral state and of what else it sees (`Visible`). -/
inductive CallbackTail where
  | noop
  | loop (calls : List (List ExtEvent))
  | platform (n : Nat)
deriving DecidableEq, Repr

/-- `EXT_CALLBACK` as plain data (R9, R10): the events of its first calls, and what it does from then on. -/
structure Callback where
  first : List (List ExtEvent)
  after : CallbackTail
deriving DecidableEq, Repr

/-- The no-op callback, "a legal value" (R9). -/
def Callback.noop : Callback := ⟨[], .noop⟩

/-- The parameters of R10 that are model arguments. -/
structure Config where
  bootMode        : BootMode
  /-- `DEVICE_MAP`: the devices attached beside the CPU, in the order of attachment (R71, R74). -/
  devices         : List Device
  /-- `EXT_CALLBACK`, "supplied at CPU construction" (R9). -/
  callback        : Callback
  /-- `DMA_REACHABLE`: where the CPU reaches memory while DMA is active, besides 0xFF46 (R83, R84). -/
  dmaReachable    : List AddrRange
  stopWake        : StopWake
  ldhlSpeInternal : LdhlSpeInternal
  /-- `DMA_RESET`: the reset value of the DMA register (R54). -/
  dmaReset        : Byte
deriving DecidableEq, Repr

/-- The defaults of R10. `DEVICE_MAP` and `EXT_CALLBACK` have no default there: these are those of the spec's test
vectors (95_test_vectors.md), one RAM device at every address except the CPU's own three (DESIGN CHOICE, log 3),
and the no-op callback (DESIGN CHOICE, log 7). -/
def Config.default : Config where
  bootMode := .postBoot
  devices := [⟨.ram, [⟨0x0000, 0xFF0E⟩, ⟨0xFF10, 0xFF45⟩, ⟨0xFF47, 0xFFFE⟩]⟩]
  callback := .noop
  dmaReachable := [⟨0xFF80, 0xFFFE⟩]
  stopWake := .pending
  ldhlSpeInternal := .one
  dmaReset := 0xFF

/-- The draw `DmaConflictRead` (R11, R84): what a CPU read that the DMA policy blocks returns. Free:
one value for each draw counter (log 5). -/
opaque Config.dmaConflictRead : Nat → Byte

/-- The draw `DmaConflictWriteTaken` (R11, R84): whether a blocked CPU write takes effect (log 5). -/
opaque Config.dmaConflictWriteTaken : Nat → Bool

/-- What the callback sees inside a tick (R167): "memory, the devices, IE, IF5 and `dma_*`", and nothing of the CPU.
`dmaActive` is isInOamDma, which other components may read (R50). -/
structure Visible where
  /-- The state of the peripherals, an opaque number (log 6). -/
  periph    : Nat
  mem       : List Host.Cell
  ie        : Byte
  if5       : BitVec 5
  dmaReg    : Byte
  dmaDelay  : Nat
  dmaSrc    : Byte
  dmaIndex  : Nat
  dmaActive : Bool
deriving DecidableEq, Repr

/-- What a peripheral answers to a read (R6, R73: `d.read` is a function of the device's own state, which is
opaque). Free: the first argument stands for the state of all peripherals, the second is isInOamDma, which a component
may read (R50, log 6). -/
opaque Config.deviceRead (periph : Nat) (inOamDma : Bool) (addr : Word) : Byte

/-- The peripherals' state after a read of an address (R6, R50, R88). Free (log 6). -/
opaque Config.deviceAfterRead (periph : Nat) (inOamDma : Bool) (addr : Word) : Nat

/-- The peripherals' state after a write of a byte at an address (R6, R50, R73). Free (log 6). -/
opaque Config.deviceAfterWrite (periph : Nat) (inOamDma : Bool) (addr : Word) (v : Byte) : Nat

/-- How many acts a call of platform `n`'s callback has, from what it sees (R9, R167). Free (log 7). -/
opaque Config.platformActs (n : Nat) (seen : Visible) : Nat

/-- The next act of that call: an event, or `none`, which only advances the peripherals (R9, R167). Free
(log 7). -/
opaque Config.platformEvent (n : Nat) (seen : Visible) : Option ExtEvent

/-- The peripherals' state after that act, with the byte a read of the callback has answered (R9: "a function from
the peripheral state to a new peripheral state"). Free (log 7). -/
opaque Config.platformNext (n : Nat) (seen : Visible) (answer : Option Byte) : Nat

end Sys2Proof
end

