-- ==== Sys2Proof/Syntax.lean ====
section
/-! DEFINITION. The instructions: one constructor for each of the 512 rows of spec/opcode_table.json, in the
order of the maps R126 and R127 (the rows with an operand of R124 first). `Instr.shape` groups the rows by the
rule that gives them their meaning. -/

namespace Sys2Proof

/-- The 8-bit registers a register field names; field value 6 is `(HL)` and has shapes of its own (R121). -/
inductive Reg8 where
  | b | c | d | e | h | l | a
deriving DecidableEq, Repr

/-- The field `dd` (R122). -/
inductive RegDd where
  | bc | de | hl | sp
deriving DecidableEq, Repr

/-- The field `qq` (R122). -/
inductive RegQq where
  | bc | de | hl | af
deriving DecidableEq, Repr

/-- The field `cc` (R123, R300). -/
inductive Cond where
  | nz | z | nc | c
deriving DecidableEq, Repr

/-- The field `alu` (R123). -/
inductive AluOp where
  | add | adc | sub | sbc | and | xor | or | cp
deriving DecidableEq, Repr

/-- The field `rot` (R123). -/
inductive RotOp where
  | rlc | rrc | rl | rr | sla | sra | swap | srl
deriving DecidableEq, Repr

/-- The instructions. `cbPrefix` is the row of 0xCB alone (R370); an `illegal` row is an opcode with no
instruction (R128, R371). -/
inductive Instr where
  -- the rows with an immediate operand (first: the compiler bounds the tag of a constructor with fields)
  | ldBcNn (nn : Word) | ldBN (n : Byte) | ldIndNnSp (nn : Word) | ldCN (n : Byte) | ldDeNn (nn : Word)
  | ldDN (n : Byte) | jrE (e : Byte) | ldEN (n : Byte) | jrNzE (e : Byte) | ldHlNn (nn : Word)
  | ldHN (n : Byte) | jrZE (e : Byte) | ldLN (n : Byte) | jrNcE (e : Byte) | ldSpNn (nn : Word)
  | ldIndHlN (n : Byte) | jrCE (e : Byte) | ldAN (n : Byte) | jpNzNn (nn : Word) | jpNn (nn : Word)
  | callNzNn (nn : Word) | addAN (n : Byte) | jpZNn (nn : Word) | callZNn (nn : Word) | callNn (nn : Word)
  | adcAN (n : Byte) | jpNcNn (nn : Word) | callNcNn (nn : Word) | subN (n : Byte) | jpCNn (nn : Word)
  | callCNn (nn : Word) | sbcAN (n : Byte) | ldhIndNA (n : Byte) | andN (n : Byte) | addSpE (e : Byte)
  | ldIndNnA (nn : Word) | xorN (n : Byte) | ldhAIndN (n : Byte) | orN (n : Byte) | ldHlSpE (e : Byte)
  | ldAIndNn (nn : Word) | cpN (n : Byte)
  -- 0x00 to 0x0F
  | nop | ldIndBcA | incBc | incB | decB | rlca | addHlBc | ldAIndBc | decBc | incC | decC | rrca
  -- 0x10 to 0x1F
  | stop | ldIndDeA | incDe | incD | decD | rla | addHlDe | ldAIndDe | decDe | incE | decE | rra
  -- 0x20 to 0x2F
  | ldIndHlIncA | incHl | incH | decH | daa | addHlHl | ldAIndHlInc | decHl | incL | decL | cpl
  -- 0x30 to 0x3F
  | ldIndHlDecA | incSp | incIndHl | decIndHl | scf | addHlSp | ldAIndHlDec | decSp | incA | decA | ccf
  -- 0x40 to 0x4F
  | ldBB | ldBC | ldBD | ldBE | ldBH | ldBL | ldBIndHl | ldBA | ldCB | ldCC | ldCD | ldCE | ldCH | ldCL
  | ldCIndHl | ldCA
  -- 0x50 to 0x5F
  | ldDB | ldDC | ldDD | ldDE | ldDH | ldDL | ldDIndHl | ldDA | ldEB | ldEC | ldED | ldEE | ldEH | ldEL
  | ldEIndHl | ldEA
  -- 0x60 to 0x6F
  | ldHB | ldHC | ldHD | ldHE | ldHH | ldHL | ldHIndHl | ldHA | ldLB | ldLC | ldLD | ldLE | ldLH | ldLL
  | ldLIndHl | ldLA
  -- 0x70 to 0x7F
  | ldIndHlB | ldIndHlC | ldIndHlD | ldIndHlE | ldIndHlH | ldIndHlL | halt | ldIndHlA | ldAB | ldAC | ldAD
  | ldAE | ldAH | ldAL | ldAIndHl | ldAA
  -- 0x80 to 0x8F
  | addAB | addAC | addAD | addAE | addAH | addAL | addAIndHl | addAA | adcAB | adcAC | adcAD | adcAE | adcAH
  | adcAL | adcAIndHl | adcAA
  -- 0x90 to 0x9F
  | subB | subC | subD | subE | subH | subL | subIndHl | subA | sbcAB | sbcAC | sbcAD | sbcAE | sbcAH | sbcAL
  | sbcAIndHl | sbcAA
  -- 0xA0 to 0xAF
  | andB | andC | andD | andE | andH | andL | andIndHl | andA | xorB | xorC | xorD | xorE | xorH | xorL
  | xorIndHl | xorA
  -- 0xB0 to 0xBF
  | orB | orC | orD | orE | orH | orL | orIndHl | orA | cpB | cpC | cpD | cpE | cpH | cpL | cpIndHl | cpA
  -- 0xC0 to 0xCF
  | retNz | popBc | pushBc | rst00 | retZ | ret | cbPrefix | rst08
  -- 0xD0 to 0xDF
  | retNc | popDe | illegalD3 | pushDe | rst10 | retC | reti | illegalDB | illegalDD | rst18
  -- 0xE0 to 0xEF
  | popHl | ldhIndCA | illegalE3 | illegalE4 | pushHl | rst20 | jpHl | illegalEB | illegalEC | illegalED
  | rst28
  -- 0xF0 to 0xFF
  | popAf | ldhAIndC | di | illegalF4 | pushAf | rst30 | ldSpHl | ei | illegalFC | illegalFD | rst38
  -- 0xCB 0x00 to 0x07
  | rlcB | rlcC | rlcD | rlcE | rlcH | rlcL | rlcIndHl | rlcA
  -- 0xCB 0x08 to 0x0F
  | rrcB | rrcC | rrcD | rrcE | rrcH | rrcL | rrcIndHl | rrcA
  -- 0xCB 0x10 to 0x17
  | rlB | rlC | rlD | rlE | rlH | rlL | rlIndHl | rlA
  -- 0xCB 0x18 to 0x1F
  | rrB | rrC | rrD | rrE | rrH | rrL | rrIndHl | rrA
  -- 0xCB 0x20 to 0x27
  | slaB | slaC | slaD | slaE | slaH | slaL | slaIndHl | slaA
  -- 0xCB 0x28 to 0x2F
  | sraB | sraC | sraD | sraE | sraH | sraL | sraIndHl | sraA
  -- 0xCB 0x30 to 0x37
  | swapB | swapC | swapD | swapE | swapH | swapL | swapIndHl | swapA
  -- 0xCB 0x38 to 0x3F
  | srlB | srlC | srlD | srlE | srlH | srlL | srlIndHl | srlA
  -- 0xCB 0x40 to 0x47
  | bit0B | bit0C | bit0D | bit0E | bit0H | bit0L | bit0IndHl | bit0A
  -- 0xCB 0x48 to 0x4F
  | bit1B | bit1C | bit1D | bit1E | bit1H | bit1L | bit1IndHl | bit1A
  -- 0xCB 0x50 to 0x57
  | bit2B | bit2C | bit2D | bit2E | bit2H | bit2L | bit2IndHl | bit2A
  -- 0xCB 0x58 to 0x5F
  | bit3B | bit3C | bit3D | bit3E | bit3H | bit3L | bit3IndHl | bit3A
  -- 0xCB 0x60 to 0x67
  | bit4B | bit4C | bit4D | bit4E | bit4H | bit4L | bit4IndHl | bit4A
  -- 0xCB 0x68 to 0x6F
  | bit5B | bit5C | bit5D | bit5E | bit5H | bit5L | bit5IndHl | bit5A
  -- 0xCB 0x70 to 0x77
  | bit6B | bit6C | bit6D | bit6E | bit6H | bit6L | bit6IndHl | bit6A
  -- 0xCB 0x78 to 0x7F
  | bit7B | bit7C | bit7D | bit7E | bit7H | bit7L | bit7IndHl | bit7A
  -- 0xCB 0x80 to 0x87
  | res0B | res0C | res0D | res0E | res0H | res0L | res0IndHl | res0A
  -- 0xCB 0x88 to 0x8F
  | res1B | res1C | res1D | res1E | res1H | res1L | res1IndHl | res1A
  -- 0xCB 0x90 to 0x97
  | res2B | res2C | res2D | res2E | res2H | res2L | res2IndHl | res2A
  -- 0xCB 0x98 to 0x9F
  | res3B | res3C | res3D | res3E | res3H | res3L | res3IndHl | res3A
  -- 0xCB 0xA0 to 0xA7
  | res4B | res4C | res4D | res4E | res4H | res4L | res4IndHl | res4A
  -- 0xCB 0xA8 to 0xAF
  | res5B | res5C | res5D | res5E | res5H | res5L | res5IndHl | res5A
  -- 0xCB 0xB0 to 0xB7
  | res6B | res6C | res6D | res6E | res6H | res6L | res6IndHl | res6A
  -- 0xCB 0xB8 to 0xBF
  | res7B | res7C | res7D | res7E | res7H | res7L | res7IndHl | res7A
  -- 0xCB 0xC0 to 0xC7
  | set0B | set0C | set0D | set0E | set0H | set0L | set0IndHl | set0A
  -- 0xCB 0xC8 to 0xCF
  | set1B | set1C | set1D | set1E | set1H | set1L | set1IndHl | set1A
  -- 0xCB 0xD0 to 0xD7
  | set2B | set2C | set2D | set2E | set2H | set2L | set2IndHl | set2A
  -- 0xCB 0xD8 to 0xDF
  | set3B | set3C | set3D | set3E | set3H | set3L | set3IndHl | set3A
  -- 0xCB 0xE0 to 0xE7
  | set4B | set4C | set4D | set4E | set4H | set4L | set4IndHl | set4A
  -- 0xCB 0xE8 to 0xEF
  | set5B | set5C | set5D | set5E | set5H | set5L | set5IndHl | set5A
  -- 0xCB 0xF0 to 0xF7
  | set6B | set6C | set6D | set6E | set6H | set6L | set6IndHl | set6A
  -- 0xCB 0xF8 to 0xFF
  | set7B | set7C | set7D | set7E | set7H | set7L | set7IndHl | set7A
deriving DecidableEq, Repr

/-- What an instruction is, by the rule that gives its meaning, with its fields as operands. -/
inductive Shape where
  /-- R193, R196, R199, R202, R205, R208, R212, R215 -/
  | aluReg (op : AluOp) (r : Reg8)
  /-- R194, R197, R200, R203, R206, R209, R213, R216 -/
  | aluHl (op : AluOp)
  /-- R195, R198, R201, R204, R207, R210, R214, R216 -/
  | aluImm (op : AluOp) (n : Byte)
  /-- R217 to R220 -/
  | incReg (r : Reg8)
  | incHl
  | decReg (r : Reg8)
  | decHl
  /-- R221 to R224 -/
  | daa
  | cpl
  | scf
  | ccf
  /-- R242 to R246 -/
  | addHl (p : RegDd)
  | incPair (p : RegDd)
  | decPair (p : RegDd)
  | addSp (e : Byte)
  | ldHlSp (e : Byte)
  /-- R258 to R277 -/
  | rotAcc (op : RotOp)
  | rotReg (op : RotOp) (r : Reg8)
  | rotHl (op : RotOp)
  /-- R290 to R295 -/
  | bitReg (b : Fin 8) (r : Reg8)
  | bitHl (b : Fin 8)
  | resReg (b : Fin 8) (r : Reg8)
  | resHl (b : Fin 8)
  | setReg (b : Fin 8) (r : Reg8)
  | setHl (b : Fin 8)
  /-- R301 to R311 -/
  | jp (nn : Word)
  | jpIf (cc : Cond) (nn : Word)
  | jpHl
  | jr (e : Byte)
  | jrIf (cc : Cond) (e : Byte)
  | call (nn : Word)
  | callIf (cc : Cond) (nn : Word)
  | ret
  | retIf (cc : Cond)
  | reti
  | rst (t : Fin 8)
  /-- R322 to R327 -/
  | push (q : RegQq)
  | pop (q : RegQq)
  | ldSpHl
  | ldNnSp (nn : Word)
  | ldPair (p : RegDd) (nn : Word)
  /-- R335 to R353 -/
  | ldReg (r r' : Reg8)
  | ldRegImm (r : Reg8) (n : Byte)
  | ldRegHl (r : Reg8)
  | ldHlReg (r : Reg8)
  | ldHlImm (n : Byte)
  | ldABc
  | ldADe
  | ldBcA
  | ldDeA
  | ldAHlInc
  | ldAHlDec
  | ldHlIncA
  | ldHlDecA
  | ldANn (nn : Word)
  | ldNnA (nn : Word)
  | ldhAN (n : Byte)
  | ldhNA (n : Byte)
  | ldhAC
  | ldhCA
  /-- R365 to R371 -/
  | nop
  | halt
  | stop
  | di
  | ei
  | cbPrefix
  | illegal (op : Byte)
deriving DecidableEq, Repr

/-- The shape of each row of the opcode table. -/
def Instr.shape (i : Instr) : Shape :=
  match i with
  | .nop => .nop
  | .ldBcNn nn => .ldPair .bc nn
  | .ldIndBcA => .ldBcA
  | .incBc => .incPair .bc
  | .incB => .incReg .b
  | .decB => .decReg .b
  | .ldBN n => .ldRegImm .b n
  | .rlca => .rotAcc .rlc
  | .ldIndNnSp nn => .ldNnSp nn
  | .addHlBc => .addHl .bc
  | .ldAIndBc => .ldABc
  | .decBc => .decPair .bc
  | .incC => .incReg .c
  | .decC => .decReg .c
  | .ldCN n => .ldRegImm .c n
  | .rrca => .rotAcc .rrc
  | .stop => .stop
  | .ldDeNn nn => .ldPair .de nn
  | .ldIndDeA => .ldDeA
  | .incDe => .incPair .de
  | .incD => .incReg .d
  | .decD => .decReg .d
  | .ldDN n => .ldRegImm .d n
  | .rla => .rotAcc .rl
  | .jrE e => .jr e
  | .addHlDe => .addHl .de
  | .ldAIndDe => .ldADe
  | .decDe => .decPair .de
  | .incE => .incReg .e
  | .decE => .decReg .e
  | .ldEN n => .ldRegImm .e n
  | .rra => .rotAcc .rr
  | .jrNzE e => .jrIf .nz e
  | .ldHlNn nn => .ldPair .hl nn
  | .ldIndHlIncA => .ldHlIncA
  | .incHl => .incPair .hl
  | .incH => .incReg .h
  | .decH => .decReg .h
  | .ldHN n => .ldRegImm .h n
  | .daa => .daa
  | .jrZE e => .jrIf .z e
  | .addHlHl => .addHl .hl
  | .ldAIndHlInc => .ldAHlInc
  | .decHl => .decPair .hl
  | .incL => .incReg .l
  | .decL => .decReg .l
  | .ldLN n => .ldRegImm .l n
  | .cpl => .cpl
  | .jrNcE e => .jrIf .nc e
  | .ldSpNn nn => .ldPair .sp nn
  | .ldIndHlDecA => .ldHlDecA
  | .incSp => .incPair .sp
  | .incIndHl => .incHl
  | .decIndHl => .decHl
  | .ldIndHlN n => .ldHlImm n
  | .scf => .scf
  | .jrCE e => .jrIf .c e
  | .addHlSp => .addHl .sp
  | .ldAIndHlDec => .ldAHlDec
  | .decSp => .decPair .sp
  | .incA => .incReg .a
  | .decA => .decReg .a
  | .ldAN n => .ldRegImm .a n
  | .ccf => .ccf
  | .ldBB => .ldReg .b .b
  | .ldBC => .ldReg .b .c
  | .ldBD => .ldReg .b .d
  | .ldBE => .ldReg .b .e
  | .ldBH => .ldReg .b .h
  | .ldBL => .ldReg .b .l
  | .ldBIndHl => .ldRegHl .b
  | .ldBA => .ldReg .b .a
  | .ldCB => .ldReg .c .b
  | .ldCC => .ldReg .c .c
  | .ldCD => .ldReg .c .d
  | .ldCE => .ldReg .c .e
  | .ldCH => .ldReg .c .h
  | .ldCL => .ldReg .c .l
  | .ldCIndHl => .ldRegHl .c
  | .ldCA => .ldReg .c .a
  | .ldDB => .ldReg .d .b
  | .ldDC => .ldReg .d .c
  | .ldDD => .ldReg .d .d
  | .ldDE => .ldReg .d .e
  | .ldDH => .ldReg .d .h
  | .ldDL => .ldReg .d .l
  | .ldDIndHl => .ldRegHl .d
  | .ldDA => .ldReg .d .a
  | .ldEB => .ldReg .e .b
  | .ldEC => .ldReg .e .c
  | .ldED => .ldReg .e .d
  | .ldEE => .ldReg .e .e
  | .ldEH => .ldReg .e .h
  | .ldEL => .ldReg .e .l
  | .ldEIndHl => .ldRegHl .e
  | .ldEA => .ldReg .e .a
  | .ldHB => .ldReg .h .b
  | .ldHC => .ldReg .h .c
  | .ldHD => .ldReg .h .d
  | .ldHE => .ldReg .h .e
  | .ldHH => .ldReg .h .h
  | .ldHL => .ldReg .h .l
  | .ldHIndHl => .ldRegHl .h
  | .ldHA => .ldReg .h .a
  | .ldLB => .ldReg .l .b
  | .ldLC => .ldReg .l .c
  | .ldLD => .ldReg .l .d
  | .ldLE => .ldReg .l .e
  | .ldLH => .ldReg .l .h
  | .ldLL => .ldReg .l .l
  | .ldLIndHl => .ldRegHl .l
  | .ldLA => .ldReg .l .a
  | .ldIndHlB => .ldHlReg .b
  | .ldIndHlC => .ldHlReg .c
  | .ldIndHlD => .ldHlReg .d
  | .ldIndHlE => .ldHlReg .e
  | .ldIndHlH => .ldHlReg .h
  | .ldIndHlL => .ldHlReg .l
  | .halt => .halt
  | .ldIndHlA => .ldHlReg .a
  | .ldAB => .ldReg .a .b
  | .ldAC => .ldReg .a .c
  | .ldAD => .ldReg .a .d
  | .ldAE => .ldReg .a .e
  | .ldAH => .ldReg .a .h
  | .ldAL => .ldReg .a .l
  | .ldAIndHl => .ldRegHl .a
  | .ldAA => .ldReg .a .a
  | .addAB => .aluReg .add .b
  | .addAC => .aluReg .add .c
  | .addAD => .aluReg .add .d
  | .addAE => .aluReg .add .e
  | .addAH => .aluReg .add .h
  | .addAL => .aluReg .add .l
  | .addAIndHl => .aluHl .add
  | .addAA => .aluReg .add .a
  | .adcAB => .aluReg .adc .b
  | .adcAC => .aluReg .adc .c
  | .adcAD => .aluReg .adc .d
  | .adcAE => .aluReg .adc .e
  | .adcAH => .aluReg .adc .h
  | .adcAL => .aluReg .adc .l
  | .adcAIndHl => .aluHl .adc
  | .adcAA => .aluReg .adc .a
  | .subB => .aluReg .sub .b
  | .subC => .aluReg .sub .c
  | .subD => .aluReg .sub .d
  | .subE => .aluReg .sub .e
  | .subH => .aluReg .sub .h
  | .subL => .aluReg .sub .l
  | .subIndHl => .aluHl .sub
  | .subA => .aluReg .sub .a
  | .sbcAB => .aluReg .sbc .b
  | .sbcAC => .aluReg .sbc .c
  | .sbcAD => .aluReg .sbc .d
  | .sbcAE => .aluReg .sbc .e
  | .sbcAH => .aluReg .sbc .h
  | .sbcAL => .aluReg .sbc .l
  | .sbcAIndHl => .aluHl .sbc
  | .sbcAA => .aluReg .sbc .a
  | .andB => .aluReg .and .b
  | .andC => .aluReg .and .c
  | .andD => .aluReg .and .d
  | .andE => .aluReg .and .e
  | .andH => .aluReg .and .h
  | .andL => .aluReg .and .l
  | .andIndHl => .aluHl .and
  | .andA => .aluReg .and .a
  | .xorB => .aluReg .xor .b
  | .xorC => .aluReg .xor .c
  | .xorD => .aluReg .xor .d
  | .xorE => .aluReg .xor .e
  | .xorH => .aluReg .xor .h
  | .xorL => .aluReg .xor .l
  | .xorIndHl => .aluHl .xor
  | .xorA => .aluReg .xor .a
  | .orB => .aluReg .or .b
  | .orC => .aluReg .or .c
  | .orD => .aluReg .or .d
  | .orE => .aluReg .or .e
  | .orH => .aluReg .or .h
  | .orL => .aluReg .or .l
  | .orIndHl => .aluHl .or
  | .orA => .aluReg .or .a
  | .cpB => .aluReg .cp .b
  | .cpC => .aluReg .cp .c
  | .cpD => .aluReg .cp .d
  | .cpE => .aluReg .cp .e
  | .cpH => .aluReg .cp .h
  | .cpL => .aluReg .cp .l
  | .cpIndHl => .aluHl .cp
  | .cpA => .aluReg .cp .a
  | .retNz => .retIf .nz
  | .popBc => .pop .bc
  | .jpNzNn nn => .jpIf .nz nn
  | .jpNn nn => .jp nn
  | .callNzNn nn => .callIf .nz nn
  | .pushBc => .push .bc
  | .addAN n => .aluImm .add n
  | .rst00 => .rst 0
  | .retZ => .retIf .z
  | .ret => .ret
  | .jpZNn nn => .jpIf .z nn
  | .cbPrefix => .cbPrefix
  | .callZNn nn => .callIf .z nn
  | .callNn nn => .call nn
  | .adcAN n => .aluImm .adc n
  | .rst08 => .rst 1
  | .retNc => .retIf .nc
  | .popDe => .pop .de
  | .jpNcNn nn => .jpIf .nc nn
  | .illegalD3 => .illegal 0xD3
  | .callNcNn nn => .callIf .nc nn
  | .pushDe => .push .de
  | .subN n => .aluImm .sub n
  | .rst10 => .rst 2
  | .retC => .retIf .c
  | .reti => .reti
  | .jpCNn nn => .jpIf .c nn
  | .illegalDB => .illegal 0xDB
  | .callCNn nn => .callIf .c nn
  | .illegalDD => .illegal 0xDD
  | .sbcAN n => .aluImm .sbc n
  | .rst18 => .rst 3
  | .ldhIndNA n => .ldhNA n
  | .popHl => .pop .hl
  | .ldhIndCA => .ldhCA
  | .illegalE3 => .illegal 0xE3
  | .illegalE4 => .illegal 0xE4
  | .pushHl => .push .hl
  | .andN n => .aluImm .and n
  | .rst20 => .rst 4
  | .addSpE e => .addSp e
  | .jpHl => .jpHl
  | .ldIndNnA nn => .ldNnA nn
  | .illegalEB => .illegal 0xEB
  | .illegalEC => .illegal 0xEC
  | .illegalED => .illegal 0xED
  | .xorN n => .aluImm .xor n
  | .rst28 => .rst 5
  | .ldhAIndN n => .ldhAN n
  | .popAf => .pop .af
  | .ldhAIndC => .ldhAC
  | .di => .di
  | .illegalF4 => .illegal 0xF4
  | .pushAf => .push .af
  | .orN n => .aluImm .or n
  | .rst30 => .rst 6
  | .ldHlSpE e => .ldHlSp e
  | .ldSpHl => .ldSpHl
  | .ldAIndNn nn => .ldANn nn
  | .ei => .ei
  | .illegalFC => .illegal 0xFC
  | .illegalFD => .illegal 0xFD
  | .cpN n => .aluImm .cp n
  | .rst38 => .rst 7
  | .rlcB => .rotReg .rlc .b
  | .rlcC => .rotReg .rlc .c
  | .rlcD => .rotReg .rlc .d
  | .rlcE => .rotReg .rlc .e
  | .rlcH => .rotReg .rlc .h
  | .rlcL => .rotReg .rlc .l
  | .rlcIndHl => .rotHl .rlc
  | .rlcA => .rotReg .rlc .a
  | .rrcB => .rotReg .rrc .b
  | .rrcC => .rotReg .rrc .c
  | .rrcD => .rotReg .rrc .d
  | .rrcE => .rotReg .rrc .e
  | .rrcH => .rotReg .rrc .h
  | .rrcL => .rotReg .rrc .l
  | .rrcIndHl => .rotHl .rrc
  | .rrcA => .rotReg .rrc .a
  | .rlB => .rotReg .rl .b
  | .rlC => .rotReg .rl .c
  | .rlD => .rotReg .rl .d
  | .rlE => .rotReg .rl .e
  | .rlH => .rotReg .rl .h
  | .rlL => .rotReg .rl .l
  | .rlIndHl => .rotHl .rl
  | .rlA => .rotReg .rl .a
  | .rrB => .rotReg .rr .b
  | .rrC => .rotReg .rr .c
  | .rrD => .rotReg .rr .d
  | .rrE => .rotReg .rr .e
  | .rrH => .rotReg .rr .h
  | .rrL => .rotReg .rr .l
  | .rrIndHl => .rotHl .rr
  | .rrA => .rotReg .rr .a
  | .slaB => .rotReg .sla .b
  | .slaC => .rotReg .sla .c
  | .slaD => .rotReg .sla .d
  | .slaE => .rotReg .sla .e
  | .slaH => .rotReg .sla .h
  | .slaL => .rotReg .sla .l
  | .slaIndHl => .rotHl .sla
  | .slaA => .rotReg .sla .a
  | .sraB => .rotReg .sra .b
  | .sraC => .rotReg .sra .c
  | .sraD => .rotReg .sra .d
  | .sraE => .rotReg .sra .e
  | .sraH => .rotReg .sra .h
  | .sraL => .rotReg .sra .l
  | .sraIndHl => .rotHl .sra
  | .sraA => .rotReg .sra .a
  | .swapB => .rotReg .swap .b
  | .swapC => .rotReg .swap .c
  | .swapD => .rotReg .swap .d
  | .swapE => .rotReg .swap .e
  | .swapH => .rotReg .swap .h
  | .swapL => .rotReg .swap .l
  | .swapIndHl => .rotHl .swap
  | .swapA => .rotReg .swap .a
  | .srlB => .rotReg .srl .b
  | .srlC => .rotReg .srl .c
  | .srlD => .rotReg .srl .d
  | .srlE => .rotReg .srl .e
  | .srlH => .rotReg .srl .h
  | .srlL => .rotReg .srl .l
  | .srlIndHl => .rotHl .srl
  | .srlA => .rotReg .srl .a
  | .bit0B => .bitReg 0 .b
  | .bit0C => .bitReg 0 .c
  | .bit0D => .bitReg 0 .d
  | .bit0E => .bitReg 0 .e
  | .bit0H => .bitReg 0 .h
  | .bit0L => .bitReg 0 .l
  | .bit0IndHl => .bitHl 0
  | .bit0A => .bitReg 0 .a
  | .bit1B => .bitReg 1 .b
  | .bit1C => .bitReg 1 .c
  | .bit1D => .bitReg 1 .d
  | .bit1E => .bitReg 1 .e
  | .bit1H => .bitReg 1 .h
  | .bit1L => .bitReg 1 .l
  | .bit1IndHl => .bitHl 1
  | .bit1A => .bitReg 1 .a
  | .bit2B => .bitReg 2 .b
  | .bit2C => .bitReg 2 .c
  | .bit2D => .bitReg 2 .d
  | .bit2E => .bitReg 2 .e
  | .bit2H => .bitReg 2 .h
  | .bit2L => .bitReg 2 .l
  | .bit2IndHl => .bitHl 2
  | .bit2A => .bitReg 2 .a
  | .bit3B => .bitReg 3 .b
  | .bit3C => .bitReg 3 .c
  | .bit3D => .bitReg 3 .d
  | .bit3E => .bitReg 3 .e
  | .bit3H => .bitReg 3 .h
  | .bit3L => .bitReg 3 .l
  | .bit3IndHl => .bitHl 3
  | .bit3A => .bitReg 3 .a
  | .bit4B => .bitReg 4 .b
  | .bit4C => .bitReg 4 .c
  | .bit4D => .bitReg 4 .d
  | .bit4E => .bitReg 4 .e
  | .bit4H => .bitReg 4 .h
  | .bit4L => .bitReg 4 .l
  | .bit4IndHl => .bitHl 4
  | .bit4A => .bitReg 4 .a
  | .bit5B => .bitReg 5 .b
  | .bit5C => .bitReg 5 .c
  | .bit5D => .bitReg 5 .d
  | .bit5E => .bitReg 5 .e
  | .bit5H => .bitReg 5 .h
  | .bit5L => .bitReg 5 .l
  | .bit5IndHl => .bitHl 5
  | .bit5A => .bitReg 5 .a
  | .bit6B => .bitReg 6 .b
  | .bit6C => .bitReg 6 .c
  | .bit6D => .bitReg 6 .d
  | .bit6E => .bitReg 6 .e
  | .bit6H => .bitReg 6 .h
  | .bit6L => .bitReg 6 .l
  | .bit6IndHl => .bitHl 6
  | .bit6A => .bitReg 6 .a
  | .bit7B => .bitReg 7 .b
  | .bit7C => .bitReg 7 .c
  | .bit7D => .bitReg 7 .d
  | .bit7E => .bitReg 7 .e
  | .bit7H => .bitReg 7 .h
  | .bit7L => .bitReg 7 .l
  | .bit7IndHl => .bitHl 7
  | .bit7A => .bitReg 7 .a
  | .res0B => .resReg 0 .b
  | .res0C => .resReg 0 .c
  | .res0D => .resReg 0 .d
  | .res0E => .resReg 0 .e
  | .res0H => .resReg 0 .h
  | .res0L => .resReg 0 .l
  | .res0IndHl => .resHl 0
  | .res0A => .resReg 0 .a
  | .res1B => .resReg 1 .b
  | .res1C => .resReg 1 .c
  | .res1D => .resReg 1 .d
  | .res1E => .resReg 1 .e
  | .res1H => .resReg 1 .h
  | .res1L => .resReg 1 .l
  | .res1IndHl => .resHl 1
  | .res1A => .resReg 1 .a
  | .res2B => .resReg 2 .b
  | .res2C => .resReg 2 .c
  | .res2D => .resReg 2 .d
  | .res2E => .resReg 2 .e
  | .res2H => .resReg 2 .h
  | .res2L => .resReg 2 .l
  | .res2IndHl => .resHl 2
  | .res2A => .resReg 2 .a
  | .res3B => .resReg 3 .b
  | .res3C => .resReg 3 .c
  | .res3D => .resReg 3 .d
  | .res3E => .resReg 3 .e
  | .res3H => .resReg 3 .h
  | .res3L => .resReg 3 .l
  | .res3IndHl => .resHl 3
  | .res3A => .resReg 3 .a
  | .res4B => .resReg 4 .b
  | .res4C => .resReg 4 .c
  | .res4D => .resReg 4 .d
  | .res4E => .resReg 4 .e
  | .res4H => .resReg 4 .h
  | .res4L => .resReg 4 .l
  | .res4IndHl => .resHl 4
  | .res4A => .resReg 4 .a
  | .res5B => .resReg 5 .b
  | .res5C => .resReg 5 .c
  | .res5D => .resReg 5 .d
  | .res5E => .resReg 5 .e
  | .res5H => .resReg 5 .h
  | .res5L => .resReg 5 .l
  | .res5IndHl => .resHl 5
  | .res5A => .resReg 5 .a
  | .res6B => .resReg 6 .b
  | .res6C => .resReg 6 .c
  | .res6D => .resReg 6 .d
  | .res6E => .resReg 6 .e
  | .res6H => .resReg 6 .h
  | .res6L => .resReg 6 .l
  | .res6IndHl => .resHl 6
  | .res6A => .resReg 6 .a
  | .res7B => .resReg 7 .b
  | .res7C => .resReg 7 .c
  | .res7D => .resReg 7 .d
  | .res7E => .resReg 7 .e
  | .res7H => .resReg 7 .h
  | .res7L => .resReg 7 .l
  | .res7IndHl => .resHl 7
  | .res7A => .resReg 7 .a
  | .set0B => .setReg 0 .b
  | .set0C => .setReg 0 .c
  | .set0D => .setReg 0 .d
  | .set0E => .setReg 0 .e
  | .set0H => .setReg 0 .h
  | .set0L => .setReg 0 .l
  | .set0IndHl => .setHl 0
  | .set0A => .setReg 0 .a
  | .set1B => .setReg 1 .b
  | .set1C => .setReg 1 .c
  | .set1D => .setReg 1 .d
  | .set1E => .setReg 1 .e
  | .set1H => .setReg 1 .h
  | .set1L => .setReg 1 .l
  | .set1IndHl => .setHl 1
  | .set1A => .setReg 1 .a
  | .set2B => .setReg 2 .b
  | .set2C => .setReg 2 .c
  | .set2D => .setReg 2 .d
  | .set2E => .setReg 2 .e
  | .set2H => .setReg 2 .h
  | .set2L => .setReg 2 .l
  | .set2IndHl => .setHl 2
  | .set2A => .setReg 2 .a
  | .set3B => .setReg 3 .b
  | .set3C => .setReg 3 .c
  | .set3D => .setReg 3 .d
  | .set3E => .setReg 3 .e
  | .set3H => .setReg 3 .h
  | .set3L => .setReg 3 .l
  | .set3IndHl => .setHl 3
  | .set3A => .setReg 3 .a
  | .set4B => .setReg 4 .b
  | .set4C => .setReg 4 .c
  | .set4D => .setReg 4 .d
  | .set4E => .setReg 4 .e
  | .set4H => .setReg 4 .h
  | .set4L => .setReg 4 .l
  | .set4IndHl => .setHl 4
  | .set4A => .setReg 4 .a
  | .set5B => .setReg 5 .b
  | .set5C => .setReg 5 .c
  | .set5D => .setReg 5 .d
  | .set5E => .setReg 5 .e
  | .set5H => .setReg 5 .h
  | .set5L => .setReg 5 .l
  | .set5IndHl => .setHl 5
  | .set5A => .setReg 5 .a
  | .set6B => .setReg 6 .b
  | .set6C => .setReg 6 .c
  | .set6D => .setReg 6 .d
  | .set6E => .setReg 6 .e
  | .set6H => .setReg 6 .h
  | .set6L => .setReg 6 .l
  | .set6IndHl => .setHl 6
  | .set6A => .setReg 6 .a
  | .set7B => .setReg 7 .b
  | .set7C => .setReg 7 .c
  | .set7D => .setReg 7 .d
  | .set7E => .setReg 7 .e
  | .set7H => .setReg 7 .h
  | .set7L => .setReg 7 .l
  | .set7IndHl => .setHl 7
  | .set7A => .setReg 7 .a

end Sys2Proof
end

