-- ==== Sys2Proof/Machine/State.lean ====
section
/-! DEFINITION. The machine's state as plain data, the reasons it can stop, and the state after
construction (10_state.md R30 to R54, 70_reset_and_hazards.md R420 to R424). -/

namespace Sys2Proof.Machine

/-- F as its four flags (R33, R34): bits 7 to 4 are Z, N, H, C; bits 3 to 0 are hardwired to 0 and so are
not stored. `Flags.toByte` and `Flags.ofByte` are the byte view. -/
structure Flags where
  z : Bool
  n : Bool
  h : Bool
  c : Bool
deriving DecidableEq, Repr

/-- `run_state` (R43). -/
inductive RunState where
  | normal
  | halted
  | haltedBug
  | stopped
deriving DecidableEq, Repr

/-- The direction of a bus access, as an `UnmappedAddress` fault records it (R380). -/
inductive Access where
  | read
  | write
deriving DecidableEq, Repr

/-- The fault kinds with the information they record (R15, R380). -/
inductive FaultKind where
  | unmappedAddress (addr : Word) (acc : Access)
  | illegalOpcode (op : Byte) (pc : Word)
  | attachOverlap (addr : Word)
deriving DecidableEq, Repr

/-- The machine. -/
structure State where
  /-- The general registers (R30); H and L form the pointer HL. -/
  a : Byte
  b : Byte
  c : Byte
  d : Byte
  e : Byte
  h : Byte
  l : Byte
  /-- F (R33). -/
  flags : Flags
  /-- SP (R36) and PC (R37). -/
  sp : Word
  pc : Word
  /-- IME (R38) and the EI delay (R39). -/
  ime : Bool
  imePending : Bool
  /-- IE at 0xFFFF (R40) and the five stored bits of IF at 0xFF0F (R41). -/
  ie : Byte
  if5 : BitVec 5
  /-- R43. -/
  runState : RunState
  /-- The DMA register at 0xFF46 (R44) and the engine's state (R45); `dmaActive` is isInOamDma (R50). -/
  dmaReg : Byte
  dmaDelay : Nat
  dmaSrc : Byte
  dmaIndex : Nat
  dmaActive : Bool
  /-- `none` in a running machine (R51). -/
  fault : Option FaultKind
  /-- The contents of the RAM devices: strictly rising addresses, no entry equal to 0x00, which is what an
  unlisted address reads as (log 4). -/
  mem : List Host.Cell
  /-- The first calls of `EXT_CALLBACK` that are still to come, one entry for each machine cycle; past the end it
  goes on as `cfg.callback.after` says (R9, log 7). -/
  ext : List (List ExtEvent)
  /-- How many calls of a callback other than the no-op have been made past its first ones (R9, log 7). -/
  extCalls : Nat
  /-- The state of the peripherals, an opaque number (R6, R53, log 6). -/
  periph : Nat
  /-- The model's own counter of draws made (R11, log 5). -/
  draws : Nat
  /-- The model's own record of where the running instruction's opcode was fetched, which an
  `IllegalOpcode` fault names (R158, R371, log 8). -/
  opPc : Word
  /-- The platform's parameters (R10); no step changes them (R74). -/
  cfg : Config
deriving DecidableEq, Repr

/-- Why a step stops for good (R15, R51, R380). `left` is the state the fault leaves (R382): the earlier
cycles of the tick done, the faulting access not. -/
inductive Fault where
  /-- Raised by a CPU access, a DMA copy or a callback access to an address no device owns (R73, R380).
  Safe: the spec's own terminal fault. -/
  | unmappedAddress (addr : Word) (acc : Access) (left : State)
  /-- Raised by the eleven illegal opcodes (R128, R371). Safe: the spec's own terminal fault. -/
  | illegalOpcode (op : Byte) (pc : Word) (left : State)
  /-- Raised by construction when two devices claim an address (R72). Safe: the run never starts. -/
  | attachOverlap (addr : Word)
deriving DecidableEq, Repr

/-- The fault of a kind, with the state it leaves. -/
def Fault.of (k : FaultKind) (s : State) : Fault :=
  match k with
  | .unmappedAddress a acc => .unmappedAddress a acc { s with fault := some k }
  | .illegalOpcode op pc => .illegalOpcode op pc { s with fault := some k }
  | .attachOverlap a => .attachOverlap a

/-- Why the model gives no next state and no fault. -/
inductive Refusal where
  /-- Raised by `exec` for an instruction without a meaning; no arm does so. Safe. -/
  | notModelled (mnemonic : String)
  /-- Raised by a step of a machine that has already faulted: "a faulted machine has no step"
  (R15, R51, U13). Safe. -/
  | faultedMachine
deriving DecidableEq, Repr

/-- The outcome of a meaning. -/
abbrev Out := Host.Outcome State Fault Refusal

/-- Construction (R54, R420): the column of reset values `BOOT_MODE` selects. `EXT_CALLBACK`
is given in `cfg` (R9). `mem`, `ext`, `extCalls`, `periph`, `draws` and `opPc` are the model's own (log 4 to 8). -/
def State.init (cfg : Config) : State :=
  match cfg.bootMode with
  | .postBoot =>
    { a := 0x01, b := 0x00, c := 0x13, d := 0x00, e := 0xD8, h := 0x01, l := 0x4D
      flags := ⟨true, false, true, true⟩, sp := 0xFFFE, pc := 0x0100
      ime := false, imePending := false, ie := 0x00, if5 := 0x01, runState := .normal
      dmaReg := cfg.dmaReset, dmaDelay := 0, dmaSrc := 0x00, dmaIndex := 0, dmaActive := false
      fault := none, mem := [], ext := cfg.callback.first, extCalls := 0, periph := 0, draws := 0
      opPc := 0x0000, cfg := cfg }
  | .bootRom =>
    { a := 0x00, b := 0x00, c := 0x00, d := 0x00, e := 0x00, h := 0x00, l := 0x00
      flags := ⟨false, false, false, false⟩, sp := 0x0000, pc := 0x0000
      ime := false, imePending := false, ie := 0x00, if5 := 0x00, runState := .normal
      dmaReg := cfg.dmaReset, dmaDelay := 0, dmaSrc := 0x00, dmaIndex := 0, dmaActive := false
      fault := none, mem := [], ext := cfg.callback.first, extCalls := 0, periph := 0, draws := 0
      opPc := 0x0000, cfg := cfg }

/-- The machine right after construction with the default parameters (R54, R420). -/
def State.reset : State := State.init Config.default

end Sys2Proof.Machine
end

