-- ==== Sys2Proof/Machine/Flags.lean ====
section
/-! DEFINITION. Every result and flag computation of the spec as a pure function, from exact integers
narrowed at the end as the pseudocode does (41_alu8.md, 42_alu16.md, 43_rotate_shift.md, 44_bit.md). -/

namespace Sys2Proof.Machine

/-- F as a byte: `Z N H C 0 0 0 0` (R33). -/
def Flags.toByte (f : Flags) : Byte :=
  BitVec.ofBool f.z ++ BitVec.ofBool f.n ++ BitVec.ofBool f.h ++ BitVec.ofBool f.c ++ 0#4

/-- A write of F stores `v & 0xF0` (R33). -/
def Flags.ofByte (v : Byte) : Flags :=
  ⟨v.getLsbD 7, v.getLsbD 6, v.getLsbD 5, v.getLsbD 4⟩

/-- `add8(a, b, cin)` (R190). -/
def add8 (a b : Byte) (cin : Bool) : Byte × Flags :=
  let s := a.toNat + b.toNat + cin.toNat
  let res := BitVec.ofNat 8 s
  (res, { z := res == 0
          n := false
          h := decide (a.toNat % 16 + b.toNat % 16 + cin.toNat > 0x0F)
          c := decide (s > 0xFF) })

/-- `sub8(a, b, cin)` (R191). -/
def sub8 (a b : Byte) (cin : Bool) : Byte × Flags :=
  let d : Int := (a.toNat : Int) - (b.toNat : Int) - (cin.toNat : Int)
  let res := BitVec.ofInt 8 d
  (res, { z := res == 0
          n := true
          h := decide (((a.toNat % 16 : Nat) : Int) - ((b.toNat % 16 : Nat) : Int) - (cin.toNat : Int) < 0)
          c := decide (d < 0) })

/-- AND (R205). -/
def and8 (a b : Byte) : Byte × Flags :=
  let res := a &&& b
  (res, { z := res == 0, n := false, h := true, c := false })

/-- XOR (R208). -/
def xor8 (a b : Byte) : Byte × Flags :=
  let res := a ^^^ b
  (res, { z := res == 0, n := false, h := false, c := false })

/-- OR (R211, R212): Z is `res = 0`, not the defect the source reports. -/
def or8 (a b : Byte) : Byte × Flags :=
  let res := a ||| b
  (res, { z := res == 0, n := false, h := false, c := false })

/-- The result and flags of the eight operations of the `alu` field (R193 to R216) on A, the operand and
the old C. -/
def aluResult (op : AluOp) (a v : Byte) (c : Bool) : Byte × Flags :=
  match op with
  | .add => add8 a v false
  | .adc => add8 a v c
  | .sub => sub8 a v false
  | .sbc => sub8 a v c
  | .and => and8 a v
  | .xor => xor8 a v
  | .or  => or8 a v
  | .cp  => sub8 a v false

/-- CP discards its result; every other operation writes A (R215, R216). -/
def aluWritesA (op : AluOp) : Bool :=
  match op with
  | .cp => false
  | .add | .adc | .sub | .sbc | .and | .xor | .or => true

/-- INC of a byte (R217, R218): C is kept. -/
def inc8 (v : Byte) (f : Flags) : Byte × Flags :=
  let res := BitVec.ofNat 8 (v.toNat + 1)
  (res, { z := res == 0, n := false, h := decide (v.toNat % 16 = 0x0F), c := f.c })

/-- DEC of a byte (R219, R220): C is kept. -/
def dec8 (v : Byte) (f : Flags) : Byte × Flags :=
  let res := BitVec.ofInt 8 ((v.toNat : Int) - 1)
  (res, { z := res == 0, n := true, h := decide (v.toNat % 16 = 0x00), c := f.c })

/-- The sum of DAA before it is narrowed, and the new C (R221). -/
def daaAdjust (a : Byte) (f : Flags) : Int × Bool :=
  let x : Int := a.toNat
  if f.n = false then
    let high := f.c = true ∨ a.toNat > 0x99
    let x := if high then x + 0x60 else x
    let x := if f.h = true ∨ a.toNat % 16 > 0x09 then x + 0x06 else x
    (x, decide high)
  else
    let x := if f.c = true then x - 0x60 else x
    let x := if f.h = true then x - 0x06 else x
    (x, f.c)

/-- DAA (R221): N is kept, H is cleared. -/
def daaResult (a : Byte) (f : Flags) : Byte × Flags :=
  let r := daaAdjust a f
  let res := BitVec.ofInt 8 r.1
  (res, { z := res == 0, n := f.n, h := false, c := r.2 })

/-- CPL (R222). -/
def cplResult (a : Byte) (f : Flags) : Byte × Flags :=
  (~~~a, { f with n := true, h := true })

/-- SCF (R223). -/
def scfFlags (f : Flags) : Flags := { f with n := false, h := false, c := true }

/-- CCF (R224). -/
def ccfFlags (f : Flags) : Flags := { f with n := false, h := false, c := !f.c }

/-- `add16(a, b)` as ADD HL,rr writes its flags (R240, R242): Z is kept. -/
def add16 (a b : Word) (f : Flags) : Word × Flags :=
  let s := a.toNat + b.toNat
  (BitVec.ofNat 16 s,
   { z := f.z
     n := false
     h := decide (a.toNat % 0x1000 + b.toNat % 0x1000 > 0x0FFF)
     c := decide (s > 0xFFFF) })

/-- `adde8(base, e)` (R241): H and C are those of the unsigned add to the low byte. -/
def addE8 (base : Word) (e : Byte) : Word × Flags :=
  (BitVec.ofInt 16 ((base.toNat : Int) + e.toInt),
   { z := false
     n := false
     h := decide (base.toNat % 16 + e.toNat % 16 > 0x0F)
     c := decide (base.toNat % 256 + e.toNat > 0xFF) })

/-- `rot(op, v, c_in)` (R255, R257): the result and the bit that becomes C. -/
def rot (op : RotOp) (v : Byte) (cIn : Bool) : Byte × Bool :=
  match op with
  | .rlc  => (v.extractLsb' 0 7 ++ v.extractLsb' 7 1, v.getLsbD 7)
  | .rrc  => (v.extractLsb' 0 1 ++ v.extractLsb' 1 7, v.getLsbD 0)
  | .rl   => (v.extractLsb' 0 7 ++ BitVec.ofBool cIn, v.getLsbD 7)
  | .rr   => (BitVec.ofBool cIn ++ v.extractLsb' 1 7, v.getLsbD 0)
  | .sla  => (v.extractLsb' 0 7 ++ 0#1, v.getLsbD 7)
  | .sra  => (v.extractLsb' 7 1 ++ v.extractLsb' 1 7, v.getLsbD 0)
  | .swap => (v.extractLsb' 0 4 ++ v.extractLsb' 4 4, false)
  | .srl  => (0#1 ++ v.extractLsb' 1 7, v.getLsbD 0)

/-- A CB rotate or shift: Z from the result (R255, R262 to R277). -/
def rotCb (op : RotOp) (v : Byte) (f : Flags) : Byte × Flags :=
  let r := rot op v f.c
  (r.1, { z := r.1 == 0, n := false, h := false, c := r.2 })

/-- An accumulator rotate: Z is always cleared (R256, R258 to R261). -/
def rotAcc (op : RotOp) (v : Byte) (f : Flags) : Byte × Flags :=
  let r := rot op v f.c
  (r.1, { z := false, n := false, h := false, c := r.2 })

/-- BIT b: the flags (R290, R291). -/
def bitFlags (b : Fin 8) (v : Byte) (f : Flags) : Flags :=
  { z := !v.getLsbD b, n := false, h := true, c := f.c }

/-- RES b: `v & ~(1 << b)` (R292, R293). -/
def resBit (b : Fin 8) (v : Byte) : Byte := v &&& ~~~((1 : Byte) <<< b.val)

/-- SET b: `v | (1 << b)` (R294, R295). -/
def setBit (b : Fin 8) (v : Byte) : Byte := v ||| ((1 : Byte) <<< b.val)

end Sys2Proof.Machine
end

