-- ==== Sys2Proof/Machine/Operands.lean ====
section
/-! DEFINITION. The operand forms: 8-bit registers, register pairs, conditions and the addresses the
instructions compute (R13, R31, R121 to R124, R240, R300). -/

namespace Sys2Proof.Machine

/-- Bits 15 to 8. -/
def hiByte (v : Word) : Byte := v.extractLsb' 8 8

/-- Bits 7 to 0. -/
def loByte (v : Word) : Byte := v.extractLsb' 0 8

/-- The pair views `rp[p]` (R13, R31): the first register is the high byte. -/
def State.bc (s : State) : Word := s.b ++ s.c
def State.de (s : State) : Word := s.d ++ s.e
def State.hl (s : State) : Word := s.h ++ s.l
def State.af (s : State) : Word := s.a ++ s.flags.toByte

def State.setBc (v : Word) (s : State) : State := { s with b := hiByte v, c := loByte v }
def State.setDe (v : Word) (s : State) : State := { s with d := hiByte v, e := loByte v }
def State.setHl (v : Word) (s : State) : State := { s with h := hiByte v, l := loByte v }

/-- `rp[AF] <- v` masks F (R31, R33). -/
def State.setAf (v : Word) (s : State) : State :=
  { s with a := hiByte v, flags := Flags.ofByte (loByte v) }

/-- `x[r]` for the seven registers an 8-bit field names (R13, R32, R121). -/
def State.reg (r : Reg8) (s : State) : Byte :=
  match r with
  | .b => s.b
  | .c => s.c
  | .d => s.d
  | .e => s.e
  | .h => s.h
  | .l => s.l
  | .a => s.a

/-- `x[r] <- v` (R13). -/
def State.setReg (r : Reg8) (v : Byte) (s : State) : State :=
  match r with
  | .b => { s with b := v }
  | .c => { s with c := v }
  | .d => { s with d := v }
  | .e => { s with e := v }
  | .h => { s with h := v }
  | .l => { s with l := v }
  | .a => { s with a := v }

/-- `R16[dd]` (R240). -/
def State.pair (p : RegDd) (s : State) : Word :=
  match p with
  | .bc => s.bc
  | .de => s.de
  | .hl => s.hl
  | .sp => s.sp

/-- `R16[dd] <- v` (R240). -/
def State.setPair (p : RegDd) (v : Word) (s : State) : State :=
  match p with
  | .bc => s.setBc v
  | .de => s.setDe v
  | .hl => s.setHl v
  | .sp => { s with sp := v }

/-- The pair PUSH stores (R322). -/
def State.stackPair (q : RegQq) (s : State) : Word :=
  match q with
  | .bc => s.bc
  | .de => s.de
  | .hl => s.hl
  | .af => s.af

/-- The pair POP loads (R323, R324). -/
def State.setStackPair (q : RegQq) (v : Word) (s : State) : State :=
  match q with
  | .bc => s.setBc v
  | .de => s.setDe v
  | .hl => s.setHl v
  | .af => s.setAf v

/-- `Cond(cc)` (R300). -/
def cond (cc : Cond) (f : Flags) : Bool :=
  match cc with
  | .nz => !f.z
  | .z  => f.z
  | .nc => !f.c
  | .c  => f.c

/-- `0xFF00 + n` (R124, R350 to R353). -/
def highPage (n : Byte) : Word := 0xFF00 + n.setWidth 16

/-- `trunc_16(pc + sext_16(e))` (R124, R304). -/
def relative (pc : Word) (e : Byte) : Word := pc + e.signExtend 16

/-- The address of RST t: `8 * t` (R311). -/
def restartAddr (t : Fin 8) : Word := BitVec.ofNat 16 (8 * t.val)

/-- The handler address of source i: `0x40 + 8 * i` (R383, R389). -/
def vectorAddr (i : Fin 5) : Word := BitVec.ofNat 16 (0x40 + 8 * i.val)

end Sys2Proof.Machine
end

