-- ==== Sys2Proof/Machine/Ops.lean ====
section
/-! DEFINITION. The named operations every meaning uses: RAM contents, the router, the CPU's bus access
under the DMA policy, the machine cycle with its DMA step and callback, the fetches, the stack, taking an
interrupt and returning from one (00_scope.md R14, 20_memory.md, 40_engine.md R152 to R156, 46_stack.md R320
and R321, 60_exceptions.md R385 to R389). -/

namespace Sys2Proof.Machine

/-- What an operation answers: a value and the state it leaves, or a fault and the state the fault leaves
(R15, R382). -/
inductive Res (α : Type) where
  | ok (v : α) (s : State)
  | fault (k : FaultKind) (s : State)

/-- Run `f` on what `r` answers; a fault ends the sequence. -/
def Res.bind {α β : Type} (r : Res α) (f : α → State → Res β) : Res β :=
  match r with
  | .ok v s => f v s
  | .fault k s => .fault k s

/-- The outcome of a sequence that has run to its end. -/
def Res.out (r : Res Unit) : Out :=
  match r with
  | .ok _ s => .next s
  | .fault k s => .fault (Fault.of k s)

/-! ### The contents of the RAM devices -/

/-- The byte a RAM device holds at an address; an unlisted one is 0x00 (log 4). -/
def Mem.read (m : List Host.Cell) (a : Nat) : Byte :=
  match m with
  | [] => 0x00
  | (b, v) :: rest => if b = a then v else Mem.read rest a

/-- Store a byte and keep the canonical form: 0x00 is not listed. -/
def Mem.write (m : List Host.Cell) (a : Nat) (v : Byte) : List Host.Cell :=
  match m with
  | [] => if v = 0x00 then [] else [(a, v)]
  | (b, w) :: rest =>
    if b < a then (b, w) :: Mem.write rest a v
    else if b = a then (if v = 0x00 then rest else (a, v) :: rest)
    else (if v = 0x00 then (b, w) :: rest else (a, v) :: (b, w) :: rest)

/-- The canonical form from address `lo` on: rising addresses in 0x0000 to 0xFFFF, no entry 0x00. -/
def Mem.wfFrom (lo : Nat) (m : List Host.Cell) : Bool :=
  match m with
  | [] => true
  | (b, v) :: rest => decide (lo ≤ b) && decide (b < 0x10000) && (v != 0x00) && Mem.wfFrom (b + 1) rest

/-- The canonical form of memory. -/
def Memory.wf (m : List Host.Cell) : Bool := Mem.wfFrom 0 m

/-! ### The router (R70 to R75) -/

def rangeHas (r : AddrRange) (a : Word) : Bool :=
  decide (r.first.toNat ≤ a.toNat) && decide (a.toNat ≤ r.last.toNat)

def inRanges (rs : List AddrRange) (a : Word) : Bool := rs.any (rangeHas · a)

/-- The addresses of IF, DMA and IE, the three the CPU itself owns (R75). -/
def ifAddr : Word := 0xFF0F
def dmaAddr : Word := 0xFF46
def ieAddr : Word := 0xFFFF

def ownerOf (k : DeviceKind) : Owner :=
  match k with
  | .ram => .ram
  | .peripheral => .peripheral

/-- `DEVICE_MAP(addr)` (R71, R73, R75): the CPU owns its three addresses on every platform. -/
def deviceMap (cfg : Config) (a : Word) : Option Owner :=
  if a = ifAddr ∨ a = dmaAddr ∨ a = ieAddr then some .cpu
  else (cfg.devices.find? (fun d => inRanges d.ranges a)).map (fun d => ownerOf d.kind)

/-- `CpuRegRead` (R85, R86, R87). -/
def cpuRegRead (a : Word) (s : State) : Byte :=
  if a = ifAddr then 0xE0 ||| s.if5.setWidth 8
  else if a = dmaAddr then s.dmaReg
  else s.ie

/-- `CpuRegWrite` (R85, R86, R87). -/
def cpuRegWrite (a : Word) (v : Byte) (s : State) : State :=
  if a = ifAddr then { s with if5 := v.setWidth 5 }
  else if a = dmaAddr then { s with dmaReg := v, dmaDelay := 4 }
  else { s with ie := v }

/-- The byte the router answers at an address, without the access's own effect: `none` where no device owns
it (R73). -/
def peek (a : Word) (s : State) : Option Byte :=
  match deviceMap s.cfg a with
  | none => none
  | some .cpu => some (cpuRegRead a s)
  | some .ram => some (Mem.read s.mem a.toNat)
  | some .peripheral => some (Config.deviceRead s.periph s.dmaActive a)

/-- A draw has been made: the next one is another (R11). -/
def drawn (s : State) : State := { s with draws := s.draws + 1 }

/-- What a read at an address does beside answering: a peripheral's state may change (R88). -/
def afterRead (a : Word) (s : State) : State :=
  match deviceMap s.cfg a with
  | some .peripheral => { s with periph := Config.deviceAfterRead s.periph s.dmaActive a }
  | none | some .cpu | some .ram => s

/-- `RouterRead` (R73). -/
def routerRead (a : Word) (s : State) : Res Byte :=
  match peek a s with
  | none => .fault (.unmappedAddress a .read) s
  | some v => .ok v (afterRead a s)

/-- The state after the router has stored a byte: `none` where no device owns the address (R73). What a
peripheral does with the byte is free (R6, log 6). -/
def poke (a : Word) (v : Byte) (s : State) : Option State :=
  match deviceMap s.cfg a with
  | none => none
  | some .cpu => some (cpuRegWrite a v s)
  | some .ram => some { s with mem := Mem.write s.mem a.toNat v }
  | some .peripheral => some { s with periph := Config.deviceAfterWrite s.periph s.dmaActive a v }

/-- `RouterWrite` (R73). -/
def routerWrite (a : Word) (v : Byte) (s : State) : Res Unit :=
  match poke a v s with
  | none => .fault (.unmappedAddress a .write) s
  | some t => .ok () t

/-! ### Interrupt requests (R41, R42, R385) -/

def sourceBit (i : Fin 5) : BitVec 5 := 1 <<< i.val

/-- `RequestInterrupt(i)` (R385). -/
def requestInterrupt (i : Fin 5) (s : State) : State := { s with if5 := s.if5 ||| sourceBit i }

/-- `IE & IF5 & 0x1F`. -/
def enabledRequests (s : State) : BitVec 5 := s.ie.setWidth 5 &&& s.if5

/-- `Pending()` (R42). -/
def pending (s : State) : Bool := enabledRequests s != 0

/-- `Dispatchable()` (R42). -/
def dispatchable (s : State) : Bool := s.ime && pending s

/-- The source a dispatch takes: the lowest set bit (R387). -/
def lowestSource (p : BitVec 5) : Fin 5 :=
  if p.getLsbD 0 then 0
  else if p.getLsbD 1 then 1
  else if p.getLsbD 2 then 2
  else if p.getLsbD 3 then 3
  else 4

/-! ### The machine cycle (R95, R152) -/

/-- The address of the byte the transfer copies next (R95). -/
def dmaSourceAddr (s : State) : Word := (s.dmaSrc ++ 0#8) + BitVec.ofNat 16 s.dmaIndex

/-- Where that byte goes (R97). -/
def dmaTargetAddr (s : State) : Word := 0xFE00 + BitVec.ofNat 16 s.dmaIndex

/-- The copy of one byte has been made: count it, and stop after the 160th (R95). -/
def dmaCopied (s : State) : State :=
  if s.dmaIndex + 1 = 160 then { s with dmaIndex := s.dmaIndex + 1, dmaActive := false }
  else { s with dmaIndex := s.dmaIndex + 1 }

/-- The first half of `DmaStep` (R95): a transfer copies one byte through the router, with no DMA policy. -/
def dmaCopy (s : State) : Res Unit :=
  if s.dmaActive then
    (routerRead (dmaSourceAddr s) s).bind fun v s1 =>
      (routerWrite (dmaTargetAddr s) v s1).bind fun _ s2 => .ok () (dmaCopied s2)
  else .ok () s

/-- The second half of `DmaStep` (R95): the arm delay counts down, and at 0 the transfer starts. -/
def dmaCountDown (s : State) : State :=
  if s.dmaDelay > 0 then
    if s.dmaDelay - 1 = 0 then
      { s with dmaDelay := 0, dmaActive := true, dmaSrc := s.dmaReg, dmaIndex := 0 }
    else { s with dmaDelay := s.dmaDelay - 1 }
  else s

/-- `DmaStep()` (R95, R96, R98). -/
def dmaStep (s : State) : Res Unit := (dmaCopy s).bind fun _ s1 => .ok () (dmaCountDown s1)

/-- One thing the callback does (R9, R385); a read answers its byte. -/
def runEvent (ev : ExtEvent) (s : State) : Res (Option Byte) :=
  match ev with
  | .request i => .ok none (requestInterrupt i s)
  | .read a => (routerRead a s).bind fun v s1 => .ok (some v) s1
  | .write a v => (routerWrite a v s).bind fun _ s1 => .ok none s1

/-- A call of the callback whose events are given, in their order. -/
def runEvents (evs : List ExtEvent) (s : State) : Res Unit :=
  match evs with
  | [] => .ok () s
  | ev :: rest => (runEvent ev s).bind fun _ s1 => runEvents rest s1

/-- The events of call number `k` of a callback that loops over a list of calls (log 7). -/
def loopEvents (calls : List (List ExtEvent)) (k : Nat) : List ExtEvent :=
  calls.getD (k % calls.length) []

/-- What the callback sees of a state (R50, R167). -/
def State.visible (s : State) : Visible :=
  { periph := s.periph, mem := s.mem, ie := s.ie, if5 := s.if5, dmaReg := s.dmaReg, dmaDelay := s.dmaDelay
    dmaSrc := s.dmaSrc, dmaIndex := s.dmaIndex, dmaActive := s.dmaActive }

/-- The event of the next act of platform `n`, if it has one (R9). -/
def platformEvent (n : Nat) (s : State) : Res (Option Byte) :=
  match Config.platformEvent n s.visible with
  | none => .ok none s
  | some ev => runEvent ev s

/-- One act of a call of platform `n` (R9): its event, and then the new peripheral state. -/
def platformAct (n : Nat) (s : State) : Res Unit :=
  (platformEvent n s).bind fun answer s1 => .ok () { s1 with periph := Config.platformNext n s1.visible answer }

/-- `k` acts of a call of platform `n`. -/
def platformCall (n k : Nat) (s : State) : Res Unit :=
  match k with
  | 0 => .ok () s
  | j + 1 => (platformAct n s).bind fun _ s1 => platformCall n j s1

/-- `ExtCycle()` (R9, R152): the entry of this machine cycle while the first calls last, and then as
`EXT_CALLBACK` goes on. -/
def extCycle (s : State) : Res Unit :=
  match s.ext with
  | evs :: rest => runEvents evs { s with ext := rest }
  | [] =>
    match s.cfg.callback.after with
    | .noop => .ok () s
    | .loop calls => runEvents (loopEvents calls s.extCalls) { s with extCalls := s.extCalls + 1 }
    | .platform n => platformCall n (Config.platformActs n s.visible) { s with extCalls := s.extCalls + 1 }

/-- `Cycle()` (R152): the DMA step, then the callback. -/
def cycle (s : State) : Res Unit := (dmaStep s).bind fun _ s1 => extCycle s1

/-! ### The machine-cycle primitives (R14, R83, R84) -/

/-- `CpuMayAccess(addr)` (R83). -/
def cpuMayAccess (a : Word) (s : State) : Bool :=
  !s.dmaActive || decide (a = dmaAddr) || inRanges s.cfg.dmaReachable a

/-- The access of `MemRead`, before its `Cycle()`: a blocked read draws its value (R84). -/
def busRead (a : Word) (s : State) : Res Byte :=
  if cpuMayAccess a s then routerRead a s
  else .ok (Config.dmaConflictRead s.draws) (drawn s)

/-- The access of `MemWrite`, before its `Cycle()`: a draw says whether a blocked write takes effect (R84). -/
def busWrite (a : Word) (v : Byte) (s : State) : Res Unit :=
  if cpuMayAccess a s then routerWrite a v s
  else if Config.dmaConflictWriteTaken s.draws then routerWrite a v (drawn s)
  else .ok () (drawn s)

/-- `MemRead(addr, 1)` (R83). -/
def memRead (a : Word) (s : State) : Res Byte :=
  (busRead a s).bind fun v s1 => (cycle s1).bind fun _ s2 => .ok v s2

/-- `MemWrite(addr, 1, v)` (R83). -/
def memWrite (a : Word) (v : Byte) (s : State) : Res Unit :=
  (busWrite a v s).bind fun _ s1 => cycle s1

/-- `Internal()` (R153). -/
def internal (s : State) : Res Unit := cycle s

/-- `n` internal cycles (R246). -/
def internals (n : Nat) (s : State) : Res Unit :=
  match n with
  | 0 => .ok () s
  | k + 1 => (internal s).bind fun _ s1 => internals k s1

/-- `FetchByte()` (R14). -/
def fetchByte (s : State) : Res Byte :=
  (memRead s.pc s).bind fun v s1 => .ok v { s1 with pc := s1.pc + 1 }

/-- `FetchWord()` (R14, R124): the low byte first. -/
def fetchWord (s : State) : Res Word :=
  (fetchByte s).bind fun lo s1 => (fetchByte s1).bind fun hi s2 => .ok (hi ++ lo) s2

/-- The opcode fetch (R155); in HALTED_BUG the PC is not incremented (R156). -/
def fetchOpcode (bug : Bool) (s : State) : Res Byte :=
  if bug then memRead s.pc s else fetchByte s

/-! ### The stack (R320, R321) -/

/-- `Push16(v)` (R320). -/
def push16 (v : Word) (s : State) : Res Unit :=
  let s1 := { s with sp := s.sp - 1 }
  (memWrite s1.sp (hiByte v) s1).bind fun _ s2 =>
    let s3 := { s2 with sp := s2.sp - 1 }
    memWrite s3.sp (loByte v) s3

/-- `Pop16()` (R321). -/
def pop16 (s : State) : Res Word :=
  (memRead s.sp s).bind fun lo s1 =>
    let s2 := { s1 with sp := s1.sp + 1 }
    (memRead s2.sp s2).bind fun hi s3 => .ok (hi ++ lo) { s3 with sp := s3.sp + 1 }

/-! ### Taking an interrupt, and returning from one -/

/-- The machine as a dispatch of source i starts its first cycle (R389, R390). -/
def acceptInterrupt (i : Fin 5) (s : State) : State :=
  { s with ime := false, if5 := s.if5 &&& ~~~sourceBit i, runState := .normal }

/-- `Dispatch()` (R389): five machine cycles, two of them the push of PC. -/
def dispatch (s : State) : Res Unit :=
  let i := lowestSource (enabledRequests s)
  (internal (acceptInterrupt i s)).bind fun _ s1 =>
    (internal s1).bind fun _ s2 =>
      (push16 s2.pc s2).bind fun _ s3 =>
        (internal s3).bind fun _ s4 => .ok () { s4 with pc := vectorAddr i }

/-- What RET and RETI share (R308, R310): pop PC, with an internal cycle after the pops. -/
def returnTo (s : State) : Res Unit :=
  (pop16 s).bind fun v s1 => (internal s1).bind fun _ s2 => .ok () { s2 with pc := v }

/-- RETI, the return from a handler (R310, R392): IME is set at once. -/
def returnFromInterrupt (s : State) : Res Unit :=
  (returnTo s).bind fun _ s1 => .ok () { s1 with ime := true, imePending := false }

/-- `raise Fault(kind, info)` (R15). -/
def raise (k : FaultKind) (s : State) : Out := .fault (Fault.of k s)

end Sys2Proof.Machine
end

