-- ==== Sys2Proof/Machine/Alu16.lean ====
section
/-! DEFINITION. 16-bit arithmetic (42_alu16.md): ADD HL,rr; INC rr; DEC rr; ADD SP,e8; LD HL,SP+e8. -/

namespace Sys2Proof.Machine

/-- ADD HL,rr (R242): one internal cycle, and HL and the flags are written after it. DESIGN CHOICE (log 26): the
pseudocode does not place the cycle, so a fault in it (R382) could also leave them written. -/
def addHl (p : RegDd) (s : State) : Out :=
  ((internal s).bind fun _ s1 =>
    let x := add16 s1.hl (s1.pair p) s1.flags
    .ok () { s1.setHl x.1 with flags := x.2 }).out

/-- INC rr (R243): no flag is written; the pair is written after the internal cycle (DESIGN CHOICE, log 26: the
pseudocode does not place the cycle, which shows in the state a fault in it leaves, R382). -/
def incPair (p : RegDd) (s : State) : Out :=
  ((internal s).bind fun _ s1 => .ok () (s1.setPair p (s1.pair p + 1))).out

/-- DEC rr (R244): no flag is written; the pair is written after the internal cycle (DESIGN CHOICE, log 26: the
pseudocode does not place the cycle, which shows in the state a fault in it leaves, R382). -/
def decPair (p : RegDd) (s : State) : Out :=
  ((internal s).bind fun _ s1 => .ok () (s1.setPair p (s1.pair p - 1))).out

/-- ADD SP,e8 (R245): two internal cycles. -/
def addSp (e : Byte) (s : State) : Out :=
  let x := addE8 s.sp e
  ((internals 2 s).bind fun _ s1 => .ok () { s1 with sp := x.1, flags := x.2 }).out

/-- `LDHL_SPE_INTERNAL` as a count (R10, R246). -/
def ldhlInternalCycles (cfg : Config) : Nat :=
  match cfg.ldhlSpeInternal with
  | .one => 1
  | .two => 2

/-- LD HL,SP+e8 (R246): SP is not changed. -/
def ldHlSp (e : Byte) (s : State) : Out :=
  let x := addE8 s.sp e
  ((internals (ldhlInternalCycles s.cfg) s).bind fun _ s1 =>
    .ok () { s1.setHl x.1 with flags := x.2 }).out

/-! ### The instructions -/

/-- `INC BC` (R243). -/
def execIncBc (s : State) : Out := incPair .bc s
/-- `ADD HL,BC` (R242). -/
def execAddHlBc (s : State) : Out := addHl .bc s
/-- `DEC BC` (R244). -/
def execDecBc (s : State) : Out := decPair .bc s
/-- `INC DE` (R243). -/
def execIncDe (s : State) : Out := incPair .de s
/-- `ADD HL,DE` (R242). -/
def execAddHlDe (s : State) : Out := addHl .de s
/-- `DEC DE` (R244). -/
def execDecDe (s : State) : Out := decPair .de s
/-- `INC HL` (R243). -/
def execIncHl (s : State) : Out := incPair .hl s
/-- `ADD HL,HL` (R242). -/
def execAddHlHl (s : State) : Out := addHl .hl s
/-- `DEC HL` (R244). -/
def execDecHl (s : State) : Out := decPair .hl s
/-- `INC SP` (R243). -/
def execIncSp (s : State) : Out := incPair .sp s
/-- `ADD HL,SP` (R242). -/
def execAddHlSp (s : State) : Out := addHl .sp s
/-- `DEC SP` (R244). -/
def execDecSp (s : State) : Out := decPair .sp s
/-- `ADD SP,e` (R245). -/
def execAddSpE (e : Byte) (s : State) : Out := addSp e s
/-- `LD HL,SP+e` (R246). -/
def execLdHlSpE (e : Byte) (s : State) : Out := ldHlSp e s

end Sys2Proof.Machine
end

