-- ==== Sys2Proof/Machine/Alu8.lean ====
section
/-! DEFINITION. The 8-bit ALU (41_alu8.md): ADD, ADC, SUB, SBC, AND, XOR, OR, CP in their register, (HL) and
immediate forms, INC, DEC, DAA, CPL, SCF, CCF. -/

namespace Sys2Proof.Machine

/-- The result of an ALU operation on A and `v` is written to A, except by CP, and to the flags
(R193 to R216). -/
def applyAlu (op : AluOp) (v : Byte) (s : State) : State :=
  let r := aluResult op s.a v s.flags.c
  { s with a := if aluWritesA op then r.1 else s.a, flags := r.2 }

/-- The register form (R192). -/
def aluReg (op : AluOp) (r : Reg8) (s : State) : Out := .next (applyAlu op (s.reg r) s)

/-- The (HL) form: one read (R192). -/
def aluHl (op : AluOp) (s : State) : Out :=
  ((memRead s.hl s).bind fun v s1 => .ok () (applyAlu op v s1)).out

/-- The immediate form; the operand has been fetched (R192). -/
def aluImm (op : AluOp) (n : Byte) (s : State) : Out := .next (applyAlu op n s)

/-- INC r (R217). -/
def incReg (r : Reg8) (s : State) : Out :=
  let x := inc8 (s.reg r) s.flags
  .next { s.setReg r x.1 with flags := x.2 }

/-- DEC r (R219). -/
def decReg (r : Reg8) (s : State) : Out :=
  let x := dec8 (s.reg r) s.flags
  .next { s.setReg r x.1 with flags := x.2 }

/-- A read and then a write of the byte at HL, in two machine cycles; the flags come from the byte read,
whether or not the write is taken (R218, R263, R293). -/
def modifyHl (f : Byte → Flags → Byte × Flags) (s : State) : Out :=
  ((memRead s.hl s).bind fun v s1 =>
    let x := f v s1.flags
    (memWrite s1.hl x.1 s1).bind fun _ s2 => .ok () { s2 with flags := x.2 }).out

/-- INC (HL) (R218). -/
def incHl (s : State) : Out := modifyHl inc8 s

/-- DEC (HL) (R220). -/
def decHl (s : State) : Out := modifyHl dec8 s

/-- DAA (R221). -/
def decimalAdjust (s : State) : Out :=
  let x := daaResult s.a s.flags
  .next { s with a := x.1, flags := x.2 }

/-- CPL (R222). -/
def complementA (s : State) : Out :=
  let x := cplResult s.a s.flags
  .next { s with a := x.1, flags := x.2 }

/-- SCF (R223). -/
def setCarry (s : State) : Out := .next { s with flags := scfFlags s.flags }

/-- CCF (R224). -/
def complementCarry (s : State) : Out := .next { s with flags := ccfFlags s.flags }

/-! ### The instructions -/

/-- `INC B` (R217). -/
def execIncB (s : State) : Out := incReg .b s
/-- `DEC B` (R219). -/
def execDecB (s : State) : Out := decReg .b s
/-- `INC C` (R217). -/
def execIncC (s : State) : Out := incReg .c s
/-- `DEC C` (R219). -/
def execDecC (s : State) : Out := decReg .c s
/-- `INC D` (R217). -/
def execIncD (s : State) : Out := incReg .d s
/-- `DEC D` (R219). -/
def execDecD (s : State) : Out := decReg .d s
/-- `INC E` (R217). -/
def execIncE (s : State) : Out := incReg .e s
/-- `DEC E` (R219). -/
def execDecE (s : State) : Out := decReg .e s
/-- `INC H` (R217). -/
def execIncH (s : State) : Out := incReg .h s
/-- `DEC H` (R219). -/
def execDecH (s : State) : Out := decReg .h s
/-- `DAA` (R221). -/
def execDaa (s : State) : Out := decimalAdjust s
/-- `INC L` (R217). -/
def execIncL (s : State) : Out := incReg .l s
/-- `DEC L` (R219). -/
def execDecL (s : State) : Out := decReg .l s
/-- `CPL` (R222). -/
def execCpl (s : State) : Out := complementA s
/-- `INC (HL)` (R218). -/
def execIncIndHl (s : State) : Out := incHl s
/-- `DEC (HL)` (R220). -/
def execDecIndHl (s : State) : Out := decHl s
/-- `SCF` (R223). -/
def execScf (s : State) : Out := setCarry s
/-- `INC A` (R217). -/
def execIncA (s : State) : Out := incReg .a s
/-- `DEC A` (R219). -/
def execDecA (s : State) : Out := decReg .a s
/-- `CCF` (R224). -/
def execCcf (s : State) : Out := complementCarry s
/-- `ADD A,B` (R193). -/
def execAddAB (s : State) : Out := aluReg .add .b s
/-- `ADD A,C` (R193). -/
def execAddAC (s : State) : Out := aluReg .add .c s
/-- `ADD A,D` (R193). -/
def execAddAD (s : State) : Out := aluReg .add .d s
/-- `ADD A,E` (R193). -/
def execAddAE (s : State) : Out := aluReg .add .e s
/-- `ADD A,H` (R193). -/
def execAddAH (s : State) : Out := aluReg .add .h s
/-- `ADD A,L` (R193). -/
def execAddAL (s : State) : Out := aluReg .add .l s
/-- `ADD A,(HL)` (R194). -/
def execAddAIndHl (s : State) : Out := aluHl .add s
/-- `ADD A,A` (R193). -/
def execAddAA (s : State) : Out := aluReg .add .a s
/-- `ADC A,B` (R196). -/
def execAdcAB (s : State) : Out := aluReg .adc .b s
/-- `ADC A,C` (R196). -/
def execAdcAC (s : State) : Out := aluReg .adc .c s
/-- `ADC A,D` (R196). -/
def execAdcAD (s : State) : Out := aluReg .adc .d s
/-- `ADC A,E` (R196). -/
def execAdcAE (s : State) : Out := aluReg .adc .e s
/-- `ADC A,H` (R196). -/
def execAdcAH (s : State) : Out := aluReg .adc .h s
/-- `ADC A,L` (R196). -/
def execAdcAL (s : State) : Out := aluReg .adc .l s
/-- `ADC A,(HL)` (R197). -/
def execAdcAIndHl (s : State) : Out := aluHl .adc s
/-- `ADC A,A` (R196). -/
def execAdcAA (s : State) : Out := aluReg .adc .a s
/-- `SUB B` (R199). -/
def execSubB (s : State) : Out := aluReg .sub .b s
/-- `SUB C` (R199). -/
def execSubC (s : State) : Out := aluReg .sub .c s
/-- `SUB D` (R199). -/
def execSubD (s : State) : Out := aluReg .sub .d s
/-- `SUB E` (R199). -/
def execSubE (s : State) : Out := aluReg .sub .e s
/-- `SUB H` (R199). -/
def execSubH (s : State) : Out := aluReg .sub .h s
/-- `SUB L` (R199). -/
def execSubL (s : State) : Out := aluReg .sub .l s
/-- `SUB (HL)` (R200). -/
def execSubIndHl (s : State) : Out := aluHl .sub s
/-- `SUB A` (R199). -/
def execSubA (s : State) : Out := aluReg .sub .a s
/-- `SBC A,B` (R202). -/
def execSbcAB (s : State) : Out := aluReg .sbc .b s
/-- `SBC A,C` (R202). -/
def execSbcAC (s : State) : Out := aluReg .sbc .c s
/-- `SBC A,D` (R202). -/
def execSbcAD (s : State) : Out := aluReg .sbc .d s
/-- `SBC A,E` (R202). -/
def execSbcAE (s : State) : Out := aluReg .sbc .e s
/-- `SBC A,H` (R202). -/
def execSbcAH (s : State) : Out := aluReg .sbc .h s
/-- `SBC A,L` (R202). -/
def execSbcAL (s : State) : Out := aluReg .sbc .l s
/-- `SBC A,(HL)` (R203). -/
def execSbcAIndHl (s : State) : Out := aluHl .sbc s
/-- `SBC A,A` (R202). -/
def execSbcAA (s : State) : Out := aluReg .sbc .a s
/-- `AND B` (R205). -/
def execAndB (s : State) : Out := aluReg .and .b s
/-- `AND C` (R205). -/
def execAndC (s : State) : Out := aluReg .and .c s
/-- `AND D` (R205). -/
def execAndD (s : State) : Out := aluReg .and .d s
/-- `AND E` (R205). -/
def execAndE (s : State) : Out := aluReg .and .e s
/-- `AND H` (R205). -/
def execAndH (s : State) : Out := aluReg .and .h s
/-- `AND L` (R205). -/
def execAndL (s : State) : Out := aluReg .and .l s
/-- `AND (HL)` (R206). -/
def execAndIndHl (s : State) : Out := aluHl .and s
/-- `AND A` (R205). -/
def execAndA (s : State) : Out := aluReg .and .a s
/-- `XOR B` (R208). -/
def execXorB (s : State) : Out := aluReg .xor .b s
/-- `XOR C` (R208). -/
def execXorC (s : State) : Out := aluReg .xor .c s
/-- `XOR D` (R208). -/
def execXorD (s : State) : Out := aluReg .xor .d s
/-- `XOR E` (R208). -/
def execXorE (s : State) : Out := aluReg .xor .e s
/-- `XOR H` (R208). -/
def execXorH (s : State) : Out := aluReg .xor .h s
/-- `XOR L` (R208). -/
def execXorL (s : State) : Out := aluReg .xor .l s
/-- `XOR (HL)` (R209). -/
def execXorIndHl (s : State) : Out := aluHl .xor s
/-- `XOR A` (R208). -/
def execXorA (s : State) : Out := aluReg .xor .a s
/-- `OR B` (R212). -/
def execOrB (s : State) : Out := aluReg .or .b s
/-- `OR C` (R212). -/
def execOrC (s : State) : Out := aluReg .or .c s
/-- `OR D` (R212). -/
def execOrD (s : State) : Out := aluReg .or .d s
/-- `OR E` (R212). -/
def execOrE (s : State) : Out := aluReg .or .e s
/-- `OR H` (R212). -/
def execOrH (s : State) : Out := aluReg .or .h s
/-- `OR L` (R212). -/
def execOrL (s : State) : Out := aluReg .or .l s
/-- `OR (HL)` (R213). -/
def execOrIndHl (s : State) : Out := aluHl .or s
/-- `OR A` (R212). -/
def execOrA (s : State) : Out := aluReg .or .a s
/-- `CP B` (R215). -/
def execCpB (s : State) : Out := aluReg .cp .b s
/-- `CP C` (R215). -/
def execCpC (s : State) : Out := aluReg .cp .c s
/-- `CP D` (R215). -/
def execCpD (s : State) : Out := aluReg .cp .d s
/-- `CP E` (R215). -/
def execCpE (s : State) : Out := aluReg .cp .e s
/-- `CP H` (R215). -/
def execCpH (s : State) : Out := aluReg .cp .h s
/-- `CP L` (R215). -/
def execCpL (s : State) : Out := aluReg .cp .l s
/-- `CP (HL)` (R216). -/
def execCpIndHl (s : State) : Out := aluHl .cp s
/-- `CP A` (R215). -/
def execCpA (s : State) : Out := aluReg .cp .a s
/-- `ADD A,n` (R195). -/
def execAddAN (n : Byte) (s : State) : Out := aluImm .add n s
/-- `ADC A,n` (R198). -/
def execAdcAN (n : Byte) (s : State) : Out := aluImm .adc n s
/-- `SUB n` (R201). -/
def execSubN (n : Byte) (s : State) : Out := aluImm .sub n s
/-- `SBC A,n` (R204). -/
def execSbcAN (n : Byte) (s : State) : Out := aluImm .sbc n s
/-- `AND n` (R207). -/
def execAndN (n : Byte) (s : State) : Out := aluImm .and n s
/-- `XOR n` (R210). -/
def execXorN (n : Byte) (s : State) : Out := aluImm .xor n s
/-- `OR n` (R214). -/
def execOrN (n : Byte) (s : State) : Out := aluImm .or n s
/-- `CP n` (R216). -/
def execCpN (n : Byte) (s : State) : Out := aluImm .cp n s

end Sys2Proof.Machine
end

