-- ==== Sys2Proof/Machine/Control.lean ====
section
/-! DEFINITION. Control transfer (45_control.md): JP, JR, CALL, RET, RETI, RST. The PC of the state is already
past the instruction's own bytes. -/

namespace Sys2Proof.Machine

/-- A jump after its internal cycle (R301, R304). -/
def jumpTo (target : Word) (s : State) : Out :=
  ((internal s).bind fun _ s1 => .ok () { s1 with pc := target }).out

/-- JP nn (R301). -/
def jumpAbs (nn : Word) (s : State) : Out := jumpTo nn s

/-- JP cc,nn (R302): the path not taken has no internal cycle. -/
def jumpAbsIf (cc : Cond) (nn : Word) (s : State) : Out :=
  if cond cc s.flags then jumpTo nn s else .next s

/-- JP HL (R303): no memory read, no internal cycle. -/
def jumpHl (s : State) : Out := .next { s with pc := s.hl }

/-- JR e (R304): relative to the address after the instruction. -/
def jumpRel (e : Byte) (s : State) : Out := jumpTo (relative s.pc e) s

/-- JR cc,e (R305). -/
def jumpRelIf (cc : Cond) (e : Byte) (s : State) : Out :=
  if cond cc s.flags then jumpTo (relative s.pc e) s else .next s

/-- An internal cycle, the push of PC, and the jump: CALL and RST (R306, R311). -/
def callTo (target : Word) (s : State) : Out :=
  ((internal s).bind fun _ s1 =>
    (push16 s1.pc s1).bind fun _ s2 => .ok () { s2 with pc := target }).out

/-- CALL nn (R306). -/
def callAbs (nn : Word) (s : State) : Out := callTo nn s

/-- CALL cc,nn (R307): not taken, it makes no stack access. -/
def callAbsIf (cc : Cond) (nn : Word) (s : State) : Out :=
  if cond cc s.flags then callTo nn s else .next s

/-- RET (R308). -/
def returnSub (s : State) : Out := (returnTo s).out

/-- RET cc (R309): the first internal cycle is spent on both paths, the condition is that of the flags
before it. -/
def returnIf (cc : Cond) (s : State) : Out :=
  ((internal s).bind fun _ s1 => if cond cc s.flags then returnTo s1 else .ok () s1).out

/-- RETI (R310). -/
def returnEnable (s : State) : Out := (returnFromInterrupt s).out

/-- RST t (R311). -/
def restart (t : Fin 8) (s : State) : Out := callTo (restartAddr t) s

/-! ### The instructions -/

/-- `JR e` (R304). -/
def execJrE (e : Byte) (s : State) : Out := jumpRel e s
/-- `JR NZ,e` (R305). -/
def execJrNzE (e : Byte) (s : State) : Out := jumpRelIf .nz e s
/-- `JR Z,e` (R305). -/
def execJrZE (e : Byte) (s : State) : Out := jumpRelIf .z e s
/-- `JR NC,e` (R305). -/
def execJrNcE (e : Byte) (s : State) : Out := jumpRelIf .nc e s
/-- `JR C,e` (R305). -/
def execJrCE (e : Byte) (s : State) : Out := jumpRelIf .c e s
/-- `RET NZ` (R309). -/
def execRetNz (s : State) : Out := returnIf .nz s
/-- `JP NZ,nn` (R302). -/
def execJpNzNn (nn : Word) (s : State) : Out := jumpAbsIf .nz nn s
/-- `JP nn` (R301). -/
def execJpNn (nn : Word) (s : State) : Out := jumpAbs nn s
/-- `CALL NZ,nn` (R307). -/
def execCallNzNn (nn : Word) (s : State) : Out := callAbsIf .nz nn s
/-- `RST 0x00` (R311). -/
def execRst00 (s : State) : Out := restart 0 s
/-- `RET Z` (R309). -/
def execRetZ (s : State) : Out := returnIf .z s
/-- `RET` (R308). -/
def execRet (s : State) : Out := returnSub s
/-- `JP Z,nn` (R302). -/
def execJpZNn (nn : Word) (s : State) : Out := jumpAbsIf .z nn s
/-- `CALL Z,nn` (R307). -/
def execCallZNn (nn : Word) (s : State) : Out := callAbsIf .z nn s
/-- `CALL nn` (R306). -/
def execCallNn (nn : Word) (s : State) : Out := callAbs nn s
/-- `RST 0x08` (R311). -/
def execRst08 (s : State) : Out := restart 1 s
/-- `RET NC` (R309). -/
def execRetNc (s : State) : Out := returnIf .nc s
/-- `JP NC,nn` (R302). -/
def execJpNcNn (nn : Word) (s : State) : Out := jumpAbsIf .nc nn s
/-- `CALL NC,nn` (R307). -/
def execCallNcNn (nn : Word) (s : State) : Out := callAbsIf .nc nn s
/-- `RST 0x10` (R311). -/
def execRst10 (s : State) : Out := restart 2 s
/-- `RET C` (R309). -/
def execRetC (s : State) : Out := returnIf .c s
/-- `RETI` (R310). -/
def execReti (s : State) : Out := returnEnable s
/-- `JP C,nn` (R302). -/
def execJpCNn (nn : Word) (s : State) : Out := jumpAbsIf .c nn s
/-- `CALL C,nn` (R307). -/
def execCallCNn (nn : Word) (s : State) : Out := callAbsIf .c nn s
/-- `RST 0x18` (R311). -/
def execRst18 (s : State) : Out := restart 3 s
/-- `RST 0x20` (R311). -/
def execRst20 (s : State) : Out := restart 4 s
/-- `JP HL` (R303). -/
def execJpHl (s : State) : Out := jumpHl s
/-- `RST 0x28` (R311). -/
def execRst28 (s : State) : Out := restart 5 s
/-- `RST 0x30` (R311). -/
def execRst30 (s : State) : Out := restart 6 s
/-- `RST 0x38` (R311). -/
def execRst38 (s : State) : Out := restart 7 s

end Sys2Proof.Machine
end

