-- ==== Sys2Proof/Machine/Loads.lean ====
section
/-! DEFINITION. 8-bit loads (47_loads.md). No load writes a flag. -/

namespace Sys2Proof.Machine

/-- LD r,r' (R335). -/
def copyReg (r r' : Reg8) (s : State) : Out := .next (s.setReg r (s.reg r'))

/-- LD r,n (R336). -/
def loadRegImm (r : Reg8) (n : Byte) (s : State) : Out := .next (s.setReg r n)

/-- LD r,(HL) (R337): the address is taken before the register changes. -/
def loadRegHl (r : Reg8) (s : State) : Out :=
  ((memRead s.hl s).bind fun v s1 => .ok () (s1.setReg r v)).out

/-- One byte stored. -/
def storeByte (addr : Word) (v : Byte) (s : State) : Out := (memWrite addr v s).out

/-- LD (HL),r (R338). -/
def storeHlReg (r : Reg8) (s : State) : Out := storeByte s.hl (s.reg r) s

/-- LD (HL),n (R339). -/
def storeHlImm (n : Byte) (s : State) : Out := storeByte s.hl n s

/-- A loaded from an address (R340, R341, R348, R350, R352). -/
def loadA (addr : Word) (s : State) : Out :=
  ((memRead addr s).bind fun v s1 => .ok () { s1 with a := v }).out

/-- LD A,(BC) (R340). -/
def loadABc (s : State) : Out := loadA s.bc s

/-- LD A,(DE) (R341). -/
def loadADe (s : State) : Out := loadA s.de s

/-- LD (BC),A (R342). -/
def storeBcA (s : State) : Out := storeByte s.bc s.a s

/-- LD (DE),A (R343). -/
def storeDeA (s : State) : Out := storeByte s.de s.a s

/-- A loaded from HL, and then HL written (R344, R345). -/
def loadAThenHl (hl' : Word) (s : State) : Out :=
  ((memRead s.hl s).bind fun v s1 => .ok () (({ s1 with a := v } : State).setHl hl')).out

/-- A stored at HL, and then HL written (R346, R347). -/
def storeAThenHl (hl' : Word) (s : State) : Out :=
  ((memWrite s.hl s.a s).bind fun _ s1 => .ok () (s1.setHl hl')).out

/-- LD A,(HL+) (R344). -/
def loadAHlInc (s : State) : Out := loadAThenHl (s.hl + 1) s

/-- LD A,(HL-) (R345). -/
def loadAHlDec (s : State) : Out := loadAThenHl (s.hl - 1) s

/-- LD (HL+),A (R346). -/
def storeHlIncA (s : State) : Out := storeAThenHl (s.hl + 1) s

/-- LD (HL-),A (R347). -/
def storeHlDecA (s : State) : Out := storeAThenHl (s.hl - 1) s

/-- LD A,(nn) (R348). -/
def loadANn (nn : Word) (s : State) : Out := loadA nn s

/-- LD (nn),A (R349). -/
def storeNnA (nn : Word) (s : State) : Out := storeByte nn s.a s

/-- LDH A,(n) (R350). -/
def loadAHigh (n : Byte) (s : State) : Out := loadA (highPage n) s

/-- LDH (n),A (R351). -/
def storeAHigh (n : Byte) (s : State) : Out := storeByte (highPage n) s.a s

/-- LDH A,(C) (R352). -/
def loadAHighC (s : State) : Out := loadA (highPage s.c) s

/-- LDH (C),A (R353). -/
def storeAHighC (s : State) : Out := storeByte (highPage s.c) s.a s

/-! ### The instructions -/

/-- `LD (BC),A` (R342). -/
def execLdIndBcA (s : State) : Out := storeBcA s
/-- `LD B,n` (R336). -/
def execLdBN (n : Byte) (s : State) : Out := loadRegImm .b n s
/-- `LD A,(BC)` (R340). -/
def execLdAIndBc (s : State) : Out := loadABc s
/-- `LD C,n` (R336). -/
def execLdCN (n : Byte) (s : State) : Out := loadRegImm .c n s
/-- `LD (DE),A` (R343). -/
def execLdIndDeA (s : State) : Out := storeDeA s
/-- `LD D,n` (R336). -/
def execLdDN (n : Byte) (s : State) : Out := loadRegImm .d n s
/-- `LD A,(DE)` (R341). -/
def execLdAIndDe (s : State) : Out := loadADe s
/-- `LD E,n` (R336). -/
def execLdEN (n : Byte) (s : State) : Out := loadRegImm .e n s
/-- `LD (HL+),A` (R346). -/
def execLdIndHlIncA (s : State) : Out := storeHlIncA s
/-- `LD H,n` (R336). -/
def execLdHN (n : Byte) (s : State) : Out := loadRegImm .h n s
/-- `LD A,(HL+)` (R344). -/
def execLdAIndHlInc (s : State) : Out := loadAHlInc s
/-- `LD L,n` (R336). -/
def execLdLN (n : Byte) (s : State) : Out := loadRegImm .l n s
/-- `LD (HL-),A` (R347). -/
def execLdIndHlDecA (s : State) : Out := storeHlDecA s
/-- `LD (HL),n` (R339). -/
def execLdIndHlN (n : Byte) (s : State) : Out := storeHlImm n s
/-- `LD A,(HL-)` (R345). -/
def execLdAIndHlDec (s : State) : Out := loadAHlDec s
/-- `LD A,n` (R336). -/
def execLdAN (n : Byte) (s : State) : Out := loadRegImm .a n s
/-- `LD B,B` (R335). -/
def execLdBB (s : State) : Out := copyReg .b .b s
/-- `LD B,C` (R335). -/
def execLdBC (s : State) : Out := copyReg .b .c s
/-- `LD B,D` (R335). -/
def execLdBD (s : State) : Out := copyReg .b .d s
/-- `LD B,E` (R335). -/
def execLdBE (s : State) : Out := copyReg .b .e s
/-- `LD B,H` (R335). -/
def execLdBH (s : State) : Out := copyReg .b .h s
/-- `LD B,L` (R335). -/
def execLdBL (s : State) : Out := copyReg .b .l s
/-- `LD B,(HL)` (R337). -/
def execLdBIndHl (s : State) : Out := loadRegHl .b s
/-- `LD B,A` (R335). -/
def execLdBA (s : State) : Out := copyReg .b .a s
/-- `LD C,B` (R335). -/
def execLdCB (s : State) : Out := copyReg .c .b s
/-- `LD C,C` (R335). -/
def execLdCC (s : State) : Out := copyReg .c .c s
/-- `LD C,D` (R335). -/
def execLdCD (s : State) : Out := copyReg .c .d s
/-- `LD C,E` (R335). -/
def execLdCE (s : State) : Out := copyReg .c .e s
/-- `LD C,H` (R335). -/
def execLdCH (s : State) : Out := copyReg .c .h s
/-- `LD C,L` (R335). -/
def execLdCL (s : State) : Out := copyReg .c .l s
/-- `LD C,(HL)` (R337). -/
def execLdCIndHl (s : State) : Out := loadRegHl .c s
/-- `LD C,A` (R335). -/
def execLdCA (s : State) : Out := copyReg .c .a s
/-- `LD D,B` (R335). -/
def execLdDB (s : State) : Out := copyReg .d .b s
/-- `LD D,C` (R335). -/
def execLdDC (s : State) : Out := copyReg .d .c s
/-- `LD D,D` (R335). -/
def execLdDD (s : State) : Out := copyReg .d .d s
/-- `LD D,E` (R335). -/
def execLdDE (s : State) : Out := copyReg .d .e s
/-- `LD D,H` (R335). -/
def execLdDH (s : State) : Out := copyReg .d .h s
/-- `LD D,L` (R335). -/
def execLdDL (s : State) : Out := copyReg .d .l s
/-- `LD D,(HL)` (R337). -/
def execLdDIndHl (s : State) : Out := loadRegHl .d s
/-- `LD D,A` (R335). -/
def execLdDA (s : State) : Out := copyReg .d .a s
/-- `LD E,B` (R335). -/
def execLdEB (s : State) : Out := copyReg .e .b s
/-- `LD E,C` (R335). -/
def execLdEC (s : State) : Out := copyReg .e .c s
/-- `LD E,D` (R335). -/
def execLdED (s : State) : Out := copyReg .e .d s
/-- `LD E,E` (R335). -/
def execLdEE (s : State) : Out := copyReg .e .e s
/-- `LD E,H` (R335). -/
def execLdEH (s : State) : Out := copyReg .e .h s
/-- `LD E,L` (R335). -/
def execLdEL (s : State) : Out := copyReg .e .l s
/-- `LD E,(HL)` (R337). -/
def execLdEIndHl (s : State) : Out := loadRegHl .e s
/-- `LD E,A` (R335). -/
def execLdEA (s : State) : Out := copyReg .e .a s
/-- `LD H,B` (R335). -/
def execLdHB (s : State) : Out := copyReg .h .b s
/-- `LD H,C` (R335). -/
def execLdHC (s : State) : Out := copyReg .h .c s
/-- `LD H,D` (R335). -/
def execLdHD (s : State) : Out := copyReg .h .d s
/-- `LD H,E` (R335). -/
def execLdHE (s : State) : Out := copyReg .h .e s
/-- `LD H,H` (R335). -/
def execLdHH (s : State) : Out := copyReg .h .h s
/-- `LD H,L` (R335). -/
def execLdHL (s : State) : Out := copyReg .h .l s
/-- `LD H,(HL)` (R337). -/
def execLdHIndHl (s : State) : Out := loadRegHl .h s
/-- `LD H,A` (R335). -/
def execLdHA (s : State) : Out := copyReg .h .a s
/-- `LD L,B` (R335). -/
def execLdLB (s : State) : Out := copyReg .l .b s
/-- `LD L,C` (R335). -/
def execLdLC (s : State) : Out := copyReg .l .c s
/-- `LD L,D` (R335). -/
def execLdLD (s : State) : Out := copyReg .l .d s
/-- `LD L,E` (R335). -/
def execLdLE (s : State) : Out := copyReg .l .e s
/-- `LD L,H` (R335). -/
def execLdLH (s : State) : Out := copyReg .l .h s
/-- `LD L,L` (R335). -/
def execLdLL (s : State) : Out := copyReg .l .l s
/-- `LD L,(HL)` (R337). -/
def execLdLIndHl (s : State) : Out := loadRegHl .l s
/-- `LD L,A` (R335). -/
def execLdLA (s : State) : Out := copyReg .l .a s
/-- `LD (HL),B` (R338). -/
def execLdIndHlB (s : State) : Out := storeHlReg .b s
/-- `LD (HL),C` (R338). -/
def execLdIndHlC (s : State) : Out := storeHlReg .c s
/-- `LD (HL),D` (R338). -/
def execLdIndHlD (s : State) : Out := storeHlReg .d s
/-- `LD (HL),E` (R338). -/
def execLdIndHlE (s : State) : Out := storeHlReg .e s
/-- `LD (HL),H` (R338). -/
def execLdIndHlH (s : State) : Out := storeHlReg .h s
/-- `LD (HL),L` (R338). -/
def execLdIndHlL (s : State) : Out := storeHlReg .l s
/-- `LD (HL),A` (R338). -/
def execLdIndHlA (s : State) : Out := storeHlReg .a s
/-- `LD A,B` (R335). -/
def execLdAB (s : State) : Out := copyReg .a .b s
/-- `LD A,C` (R335). -/
def execLdAC (s : State) : Out := copyReg .a .c s
/-- `LD A,D` (R335). -/
def execLdAD (s : State) : Out := copyReg .a .d s
/-- `LD A,E` (R335). -/
def execLdAE (s : State) : Out := copyReg .a .e s
/-- `LD A,H` (R335). -/
def execLdAH (s : State) : Out := copyReg .a .h s
/-- `LD A,L` (R335). -/
def execLdAL (s : State) : Out := copyReg .a .l s
/-- `LD A,(HL)` (R337). -/
def execLdAIndHl (s : State) : Out := loadRegHl .a s
/-- `LD A,A` (R335). -/
def execLdAA (s : State) : Out := copyReg .a .a s
/-- `LDH (n),A` (R351). -/
def execLdhIndNA (n : Byte) (s : State) : Out := storeAHigh n s
/-- `LDH (C),A` (R353). -/
def execLdhIndCA (s : State) : Out := storeAHighC s
/-- `LD (nn),A` (R349). -/
def execLdIndNnA (nn : Word) (s : State) : Out := storeNnA nn s
/-- `LDH A,(n)` (R350). -/
def execLdhAIndN (n : Byte) (s : State) : Out := loadAHigh n s
/-- `LDH A,(C)` (R352). -/
def execLdhAIndC (s : State) : Out := loadAHighC s
/-- `LD A,(nn)` (R348). -/
def execLdAIndNn (nn : Word) (s : State) : Out := loadANn nn s

end Sys2Proof.Machine
end

