-- ==== Sys2Proof/Machine/Stack.lean ====
section
/-! DEFINITION. Stack and 16-bit loads (46_stack.md): PUSH, POP, LD SP,HL, LD (nn),SP, LD dd,nn. -/

namespace Sys2Proof.Machine

/-- PUSH qq (R322): an internal cycle, then the push. -/
def pushPair (q : RegQq) (s : State) : Out :=
  ((internal s).bind fun _ s1 => push16 (s1.stackPair q) s1).out

/-- POP qq (R323) and POP AF (R324). -/
def popPair (q : RegQq) (s : State) : Out :=
  ((pop16 s).bind fun v s1 => .ok () (s1.setStackPair q v)).out

/-- LD SP,HL (R325). -/
def copyHlToSp (s : State) : Out :=
  ((internal s).bind fun _ s1 => .ok () { s1 with sp := s1.hl }).out

/-- LD (nn),SP (R326): the low byte first, at `nn`. -/
def storeSp (nn : Word) (s : State) : Out :=
  ((memWrite nn (loByte s.sp) s).bind fun _ s1 => memWrite (nn + 1) (hiByte s1.sp) s1).out

/-- LD dd,nn (R327). -/
def loadPair (p : RegDd) (nn : Word) (s : State) : Out := .next (s.setPair p nn)

/-! ### The instructions -/

/-- `LD BC,nn` (R327). -/
def execLdBcNn (nn : Word) (s : State) : Out := loadPair .bc nn s
/-- `LD (nn),SP` (R326). -/
def execLdIndNnSp (nn : Word) (s : State) : Out := storeSp nn s
/-- `LD DE,nn` (R327). -/
def execLdDeNn (nn : Word) (s : State) : Out := loadPair .de nn s
/-- `LD HL,nn` (R327). -/
def execLdHlNn (nn : Word) (s : State) : Out := loadPair .hl nn s
/-- `LD SP,nn` (R327). -/
def execLdSpNn (nn : Word) (s : State) : Out := loadPair .sp nn s
/-- `POP BC` (R323). -/
def execPopBc (s : State) : Out := popPair .bc s
/-- `PUSH BC` (R322). -/
def execPushBc (s : State) : Out := pushPair .bc s
/-- `POP DE` (R323). -/
def execPopDe (s : State) : Out := popPair .de s
/-- `PUSH DE` (R322). -/
def execPushDe (s : State) : Out := pushPair .de s
/-- `POP HL` (R323). -/
def execPopHl (s : State) : Out := popPair .hl s
/-- `PUSH HL` (R322). -/
def execPushHl (s : State) : Out := pushPair .hl s
/-- `POP AF` (R324). -/
def execPopAf (s : State) : Out := popPair .af s
/-- `PUSH AF` (R322). -/
def execPushAf (s : State) : Out := pushPair .af s
/-- `LD SP,HL` (R325). -/
def execLdSpHl (s : State) : Out := copyHlToSp s

end Sys2Proof.Machine
end

