-- ==== Sys2Proof/WellFormed.lean ====
section
/-! DEFINITION. The well-formed instructions: a whole instruction as it stands in memory. Every operand has
exactly the bits its field has, so the one check is that an instruction is not the bare prefix. -/

namespace Sys2Proof

/-- `i` is a whole instruction: the CB prefix "is not an instruction by itself" (R370). -/
def Instr.wellFormed (i : Instr) : Bool := i.shape != .cbPrefix

/-- `i` is one of the instructions the ISA defines, not one of the eleven illegal opcodes (R128). -/
def Instr.legal (i : Instr) : Bool :=
  match i.shape with
  | .illegal _ => false
  | _ => true

end Sys2Proof
end

