-- ==== Sys2Proof/Decode.lean ====
section
/-! DEFINITION. Decoding and encoding (30_encoding.md). The two opcode tables of R125 are the maps R126 and
R127 row by row; the decoder is total on any bytes and rejects by name. -/

namespace Sys2Proof

/-- What follows an opcode of the unprefixed table: its format (R120) and the instruction. -/
inductive OpEntry where
  | op (i : Instr)
  | opN (f : Byte → Instr)
  | opE (f : Byte → Instr)
  | opNn (f : Word → Instr)
  | cb
  | stop

/-! ### The unprefixed map, one line of R126 each (R126) -/

def opRow0 : Vector OpEntry 16 := #v[
  .op .nop, .opNn .ldBcNn, .op .ldIndBcA, .op .incBc, .op .incB, .op .decB, .opN .ldBN, .op .rlca,
  .opNn .ldIndNnSp, .op .addHlBc, .op .ldAIndBc, .op .decBc, .op .incC, .op .decC, .opN .ldCN, .op .rrca]
def opRow1 : Vector OpEntry 16 := #v[
  .stop, .opNn .ldDeNn, .op .ldIndDeA, .op .incDe, .op .incD, .op .decD, .opN .ldDN, .op .rla, .opE .jrE,
  .op .addHlDe, .op .ldAIndDe, .op .decDe, .op .incE, .op .decE, .opN .ldEN, .op .rra]
def opRow2 : Vector OpEntry 16 := #v[
  .opE .jrNzE, .opNn .ldHlNn, .op .ldIndHlIncA, .op .incHl, .op .incH, .op .decH, .opN .ldHN, .op .daa,
  .opE .jrZE, .op .addHlHl, .op .ldAIndHlInc, .op .decHl, .op .incL, .op .decL, .opN .ldLN, .op .cpl]
def opRow3 : Vector OpEntry 16 := #v[
  .opE .jrNcE, .opNn .ldSpNn, .op .ldIndHlDecA, .op .incSp, .op .incIndHl, .op .decIndHl, .opN .ldIndHlN,
  .op .scf, .opE .jrCE, .op .addHlSp, .op .ldAIndHlDec, .op .decSp, .op .incA, .op .decA, .opN .ldAN, .op .ccf]
def opRow4 : Vector OpEntry 16 := #v[
  .op .ldBB, .op .ldBC, .op .ldBD, .op .ldBE, .op .ldBH, .op .ldBL, .op .ldBIndHl, .op .ldBA, .op .ldCB,
  .op .ldCC, .op .ldCD, .op .ldCE, .op .ldCH, .op .ldCL, .op .ldCIndHl, .op .ldCA]
def opRow5 : Vector OpEntry 16 := #v[
  .op .ldDB, .op .ldDC, .op .ldDD, .op .ldDE, .op .ldDH, .op .ldDL, .op .ldDIndHl, .op .ldDA, .op .ldEB,
  .op .ldEC, .op .ldED, .op .ldEE, .op .ldEH, .op .ldEL, .op .ldEIndHl, .op .ldEA]
def opRow6 : Vector OpEntry 16 := #v[
  .op .ldHB, .op .ldHC, .op .ldHD, .op .ldHE, .op .ldHH, .op .ldHL, .op .ldHIndHl, .op .ldHA, .op .ldLB,
  .op .ldLC, .op .ldLD, .op .ldLE, .op .ldLH, .op .ldLL, .op .ldLIndHl, .op .ldLA]
def opRow7 : Vector OpEntry 16 := #v[
  .op .ldIndHlB, .op .ldIndHlC, .op .ldIndHlD, .op .ldIndHlE, .op .ldIndHlH, .op .ldIndHlL, .op .halt,
  .op .ldIndHlA, .op .ldAB, .op .ldAC, .op .ldAD, .op .ldAE, .op .ldAH, .op .ldAL, .op .ldAIndHl, .op .ldAA]
def opRow8 : Vector OpEntry 16 := #v[
  .op .addAB, .op .addAC, .op .addAD, .op .addAE, .op .addAH, .op .addAL, .op .addAIndHl, .op .addAA,
  .op .adcAB, .op .adcAC, .op .adcAD, .op .adcAE, .op .adcAH, .op .adcAL, .op .adcAIndHl, .op .adcAA]
def opRow9 : Vector OpEntry 16 := #v[
  .op .subB, .op .subC, .op .subD, .op .subE, .op .subH, .op .subL, .op .subIndHl, .op .subA, .op .sbcAB,
  .op .sbcAC, .op .sbcAD, .op .sbcAE, .op .sbcAH, .op .sbcAL, .op .sbcAIndHl, .op .sbcAA]
def opRowA : Vector OpEntry 16 := #v[
  .op .andB, .op .andC, .op .andD, .op .andE, .op .andH, .op .andL, .op .andIndHl, .op .andA, .op .xorB,
  .op .xorC, .op .xorD, .op .xorE, .op .xorH, .op .xorL, .op .xorIndHl, .op .xorA]
def opRowB : Vector OpEntry 16 := #v[
  .op .orB, .op .orC, .op .orD, .op .orE, .op .orH, .op .orL, .op .orIndHl, .op .orA, .op .cpB, .op .cpC,
  .op .cpD, .op .cpE, .op .cpH, .op .cpL, .op .cpIndHl, .op .cpA]
def opRowC : Vector OpEntry 16 := #v[
  .op .retNz, .op .popBc, .opNn .jpNzNn, .opNn .jpNn, .opNn .callNzNn, .op .pushBc, .opN .addAN, .op .rst00,
  .op .retZ, .op .ret, .opNn .jpZNn, .cb, .opNn .callZNn, .opNn .callNn, .opN .adcAN, .op .rst08]
def opRowD : Vector OpEntry 16 := #v[
  .op .retNc, .op .popDe, .opNn .jpNcNn, .op .illegalD3, .opNn .callNcNn, .op .pushDe, .opN .subN, .op .rst10,
  .op .retC, .op .reti, .opNn .jpCNn, .op .illegalDB, .opNn .callCNn, .op .illegalDD, .opN .sbcAN, .op .rst18]
def opRowE : Vector OpEntry 16 := #v[
  .opN .ldhIndNA, .op .popHl, .op .ldhIndCA, .op .illegalE3, .op .illegalE4, .op .pushHl, .opN .andN,
  .op .rst20, .opE .addSpE, .op .jpHl, .opNn .ldIndNnA, .op .illegalEB, .op .illegalEC, .op .illegalED,
  .opN .xorN, .op .rst28]
def opRowF : Vector OpEntry 16 := #v[
  .opN .ldhAIndN, .op .popAf, .op .ldhAIndC, .op .di, .op .illegalF4, .op .pushAf, .opN .orN, .op .rst30,
  .opE .ldHlSpE, .op .ldSpHl, .opNn .ldAIndNn, .op .ei, .op .illegalFC, .op .illegalFD, .opN .cpN, .op .rst38]

/-- The unprefixed table. -/
def opTable : Vector (Vector OpEntry 16) 16 := #v[
  opRow0, opRow1, opRow2, opRow3, opRow4, opRow5, opRow6, opRow7, opRow8, opRow9, opRowA, opRowB, opRowC,
  opRowD, opRowE, opRowF]

/-- The row of an opcode: high nibble the line, low nibble the column (R126). -/
def opEntry (op : Byte) : OpEntry :=
  (opTable[op.toNat / 16]'(by have := op.isLt; omega))[op.toNat % 16]'(by omega)

/-! ### The CB map, one operation of R127 each -/

def cbRow00 : Vector Instr 8 := #v[
  .rlcB, .rlcC, .rlcD, .rlcE, .rlcH, .rlcL, .rlcIndHl, .rlcA]
def cbRow01 : Vector Instr 8 := #v[
  .rrcB, .rrcC, .rrcD, .rrcE, .rrcH, .rrcL, .rrcIndHl, .rrcA]
def cbRow02 : Vector Instr 8 := #v[
  .rlB, .rlC, .rlD, .rlE, .rlH, .rlL, .rlIndHl, .rlA]
def cbRow03 : Vector Instr 8 := #v[
  .rrB, .rrC, .rrD, .rrE, .rrH, .rrL, .rrIndHl, .rrA]
def cbRow04 : Vector Instr 8 := #v[
  .slaB, .slaC, .slaD, .slaE, .slaH, .slaL, .slaIndHl, .slaA]
def cbRow05 : Vector Instr 8 := #v[
  .sraB, .sraC, .sraD, .sraE, .sraH, .sraL, .sraIndHl, .sraA]
def cbRow06 : Vector Instr 8 := #v[
  .swapB, .swapC, .swapD, .swapE, .swapH, .swapL, .swapIndHl, .swapA]
def cbRow07 : Vector Instr 8 := #v[
  .srlB, .srlC, .srlD, .srlE, .srlH, .srlL, .srlIndHl, .srlA]
def cbRow08 : Vector Instr 8 := #v[
  .bit0B, .bit0C, .bit0D, .bit0E, .bit0H, .bit0L, .bit0IndHl, .bit0A]
def cbRow09 : Vector Instr 8 := #v[
  .bit1B, .bit1C, .bit1D, .bit1E, .bit1H, .bit1L, .bit1IndHl, .bit1A]
def cbRow0A : Vector Instr 8 := #v[
  .bit2B, .bit2C, .bit2D, .bit2E, .bit2H, .bit2L, .bit2IndHl, .bit2A]
def cbRow0B : Vector Instr 8 := #v[
  .bit3B, .bit3C, .bit3D, .bit3E, .bit3H, .bit3L, .bit3IndHl, .bit3A]
def cbRow0C : Vector Instr 8 := #v[
  .bit4B, .bit4C, .bit4D, .bit4E, .bit4H, .bit4L, .bit4IndHl, .bit4A]
def cbRow0D : Vector Instr 8 := #v[
  .bit5B, .bit5C, .bit5D, .bit5E, .bit5H, .bit5L, .bit5IndHl, .bit5A]
def cbRow0E : Vector Instr 8 := #v[
  .bit6B, .bit6C, .bit6D, .bit6E, .bit6H, .bit6L, .bit6IndHl, .bit6A]
def cbRow0F : Vector Instr 8 := #v[
  .bit7B, .bit7C, .bit7D, .bit7E, .bit7H, .bit7L, .bit7IndHl, .bit7A]
def cbRow10 : Vector Instr 8 := #v[
  .res0B, .res0C, .res0D, .res0E, .res0H, .res0L, .res0IndHl, .res0A]
def cbRow11 : Vector Instr 8 := #v[
  .res1B, .res1C, .res1D, .res1E, .res1H, .res1L, .res1IndHl, .res1A]
def cbRow12 : Vector Instr 8 := #v[
  .res2B, .res2C, .res2D, .res2E, .res2H, .res2L, .res2IndHl, .res2A]
def cbRow13 : Vector Instr 8 := #v[
  .res3B, .res3C, .res3D, .res3E, .res3H, .res3L, .res3IndHl, .res3A]
def cbRow14 : Vector Instr 8 := #v[
  .res4B, .res4C, .res4D, .res4E, .res4H, .res4L, .res4IndHl, .res4A]
def cbRow15 : Vector Instr 8 := #v[
  .res5B, .res5C, .res5D, .res5E, .res5H, .res5L, .res5IndHl, .res5A]
def cbRow16 : Vector Instr 8 := #v[
  .res6B, .res6C, .res6D, .res6E, .res6H, .res6L, .res6IndHl, .res6A]
def cbRow17 : Vector Instr 8 := #v[
  .res7B, .res7C, .res7D, .res7E, .res7H, .res7L, .res7IndHl, .res7A]
def cbRow18 : Vector Instr 8 := #v[
  .set0B, .set0C, .set0D, .set0E, .set0H, .set0L, .set0IndHl, .set0A]
def cbRow19 : Vector Instr 8 := #v[
  .set1B, .set1C, .set1D, .set1E, .set1H, .set1L, .set1IndHl, .set1A]
def cbRow1A : Vector Instr 8 := #v[
  .set2B, .set2C, .set2D, .set2E, .set2H, .set2L, .set2IndHl, .set2A]
def cbRow1B : Vector Instr 8 := #v[
  .set3B, .set3C, .set3D, .set3E, .set3H, .set3L, .set3IndHl, .set3A]
def cbRow1C : Vector Instr 8 := #v[
  .set4B, .set4C, .set4D, .set4E, .set4H, .set4L, .set4IndHl, .set4A]
def cbRow1D : Vector Instr 8 := #v[
  .set5B, .set5C, .set5D, .set5E, .set5H, .set5L, .set5IndHl, .set5A]
def cbRow1E : Vector Instr 8 := #v[
  .set6B, .set6C, .set6D, .set6E, .set6H, .set6L, .set6IndHl, .set6A]
def cbRow1F : Vector Instr 8 := #v[
  .set7B, .set7C, .set7D, .set7E, .set7H, .set7L, .set7IndHl, .set7A]

/-- The CB table. -/
def cbTable : Vector (Vector Instr 8) 32 := #v[
  cbRow00, cbRow01, cbRow02, cbRow03, cbRow04, cbRow05, cbRow06, cbRow07, cbRow08, cbRow09, cbRow0A, cbRow0B,
  cbRow0C, cbRow0D, cbRow0E, cbRow0F, cbRow10, cbRow11, cbRow12, cbRow13, cbRow14, cbRow15, cbRow16, cbRow17,
  cbRow18, cbRow19, cbRow1A, cbRow1B, cbRow1C, cbRow1D, cbRow1E, cbRow1F]

/-- The row of a CB opcode: bits 7 to 3 the operation, bits 2 to 0 the operand (R127). -/
def cbEntry (c : Byte) : Instr :=
  (cbTable[c.toNat / 8]'(by have := c.isLt; omega))[c.toNat % 8]'(by omega)

/-! ### The fields (R121, R123) -/

/-- The register field; value 6 is `(HL)` (R121). -/
def regField (z : BitVec 3) : Option Reg8 :=
  match z with
  | 0#3 => some .b
  | 1#3 => some .c
  | 2#3 => some .d
  | 3#3 => some .e
  | 4#3 => some .h
  | 5#3 => some .l
  | 6#3 => none
  | 7#3 => some .a

/-- The `rot` field (R123). -/
def rotField (y : BitVec 3) : RotOp :=
  match y with
  | 0#3 => .rlc
  | 1#3 => .rrc
  | 2#3 => .rl
  | 3#3 => .rr
  | 4#3 => .sla
  | 5#3 => .sra
  | 6#3 => .swap
  | 7#3 => .srl

/-! ### The decoder -/

/-- Why bytes are no instruction: there is none, or the operand bytes of an opcode are missing. Every opcode
byte has a row (R125), so nothing else is rejected. -/
inductive DecodeError where
  | noBytes
  | truncated (op : Byte)
deriving DecidableEq, Repr

/-- Read one instruction from the front of a list of bytes, and the bytes after it. 0xCB with no byte after
it is the row CB_prefix. The ignored byte of STOP belongs to it (R120). -/
def decode (bytes : List Byte) : Except DecodeError (Instr × List Byte) :=
  match bytes with
  | [] => .error .noBytes
  | op :: rest =>
    match opEntry op, rest with
    | .op i, _ => .ok (i, rest)
    | .opN f, n :: more => .ok (f n, more)
    | .opN _, [] => .error (.truncated op)
    | .opE f, e :: more => .ok (f e, more)
    | .opE _, [] => .error (.truncated op)
    | .opNn f, lo :: hi :: more => .ok (f (hi ++ lo), more)
    | .opNn _, _ => .error (.truncated op)
    | .cb, c :: more => .ok (cbEntry c, more)
    | .cb, [] => .ok (.cbPrefix, [])
    | .stop, _ => .ok (.stop, rest.drop 1)

/-- Byte `k` of a word whose first byte is its least significant one. -/
def wordByte (w k : Nat) : Byte := BitVec.ofNat 8 (w / 256 ^ k)

/-- The bytes of an opcode-table word, first byte first, filled with 0x00 to the longest instruction. The
table numbers a two-byte CB row with 0xCB as its HIGH byte (`match` 0xCB00 + c); every other row's opcode is
bits 7 to 0 and its operand bytes count on from there (log 9). -/
def tableBytes (nbits w : Nat) : List Byte :=
  if nbits = 16 ∧ w / 256 = 0xCB then [0xCB, wordByte w 0, 0x00]
  else [wordByte w 0, wordByte w 1, wordByte w 2]

/-- The instruction the decoder reads from an opcode-table word. The word 0xCB is the row CB_prefix: in the
table's numbering `RLC B` is 0xCB00 (log 9). -/
def decodeTableWord (nbits w : Nat) : Option Instr :=
  let bytes := if w = 0xCB then [0xCB] else tableBytes nbits w
  match decode bytes with
  | .ok (i, _) => some i
  | .error _ => none

/-! ### The encoder -/

/-- The bytes of an instruction, first byte first, from the encodings of the rules (R120, R124). STOP's
ignored byte is written 0x00. -/
def encode (i : Instr) : List Byte :=
  match i with
  | .nop => [0x00]
  | .ldBcNn nn => [0x01, nn.extractLsb' 0 8, nn.extractLsb' 8 8]
  | .ldIndBcA => [0x02]
  | .incBc => [0x03]
  | .incB => [0x04]
  | .decB => [0x05]
  | .ldBN n => [0x06, n]
  | .rlca => [0x07]
  | .ldIndNnSp nn => [0x08, nn.extractLsb' 0 8, nn.extractLsb' 8 8]
  | .addHlBc => [0x09]
  | .ldAIndBc => [0x0A]
  | .decBc => [0x0B]
  | .incC => [0x0C]
  | .decC => [0x0D]
  | .ldCN n => [0x0E, n]
  | .rrca => [0x0F]
  | .stop => [0x10, 0x00]
  | .ldDeNn nn => [0x11, nn.extractLsb' 0 8, nn.extractLsb' 8 8]
  | .ldIndDeA => [0x12]
  | .incDe => [0x13]
  | .incD => [0x14]
  | .decD => [0x15]
  | .ldDN n => [0x16, n]
  | .rla => [0x17]
  | .jrE e => [0x18, e]
  | .addHlDe => [0x19]
  | .ldAIndDe => [0x1A]
  | .decDe => [0x1B]
  | .incE => [0x1C]
  | .decE => [0x1D]
  | .ldEN n => [0x1E, n]
  | .rra => [0x1F]
  | .jrNzE e => [0x20, e]
  | .ldHlNn nn => [0x21, nn.extractLsb' 0 8, nn.extractLsb' 8 8]
  | .ldIndHlIncA => [0x22]
  | .incHl => [0x23]
  | .incH => [0x24]
  | .decH => [0x25]
  | .ldHN n => [0x26, n]
  | .daa => [0x27]
  | .jrZE e => [0x28, e]
  | .addHlHl => [0x29]
  | .ldAIndHlInc => [0x2A]
  | .decHl => [0x2B]
  | .incL => [0x2C]
  | .decL => [0x2D]
  | .ldLN n => [0x2E, n]
  | .cpl => [0x2F]
  | .jrNcE e => [0x30, e]
  | .ldSpNn nn => [0x31, nn.extractLsb' 0 8, nn.extractLsb' 8 8]
  | .ldIndHlDecA => [0x32]
  | .incSp => [0x33]
  | .incIndHl => [0x34]
  | .decIndHl => [0x35]
  | .ldIndHlN n => [0x36, n]
  | .scf => [0x37]
  | .jrCE e => [0x38, e]
  | .addHlSp => [0x39]
  | .ldAIndHlDec => [0x3A]
  | .decSp => [0x3B]
  | .incA => [0x3C]
  | .decA => [0x3D]
  | .ldAN n => [0x3E, n]
  | .ccf => [0x3F]
  | .ldBB => [0x40]
  | .ldBC => [0x41]
  | .ldBD => [0x42]
  | .ldBE => [0x43]
  | .ldBH => [0x44]
  | .ldBL => [0x45]
  | .ldBIndHl => [0x46]
  | .ldBA => [0x47]
  | .ldCB => [0x48]
  | .ldCC => [0x49]
  | .ldCD => [0x4A]
  | .ldCE => [0x4B]
  | .ldCH => [0x4C]
  | .ldCL => [0x4D]
  | .ldCIndHl => [0x4E]
  | .ldCA => [0x4F]
  | .ldDB => [0x50]
  | .ldDC => [0x51]
  | .ldDD => [0x52]
  | .ldDE => [0x53]
  | .ldDH => [0x54]
  | .ldDL => [0x55]
  | .ldDIndHl => [0x56]
  | .ldDA => [0x57]
  | .ldEB => [0x58]
  | .ldEC => [0x59]
  | .ldED => [0x5A]
  | .ldEE => [0x5B]
  | .ldEH => [0x5C]
  | .ldEL => [0x5D]
  | .ldEIndHl => [0x5E]
  | .ldEA => [0x5F]
  | .ldHB => [0x60]
  | .ldHC => [0x61]
  | .ldHD => [0x62]
  | .ldHE => [0x63]
  | .ldHH => [0x64]
  | .ldHL => [0x65]
  | .ldHIndHl => [0x66]
  | .ldHA => [0x67]
  | .ldLB => [0x68]
  | .ldLC => [0x69]
  | .ldLD => [0x6A]
  | .ldLE => [0x6B]
  | .ldLH => [0x6C]
  | .ldLL => [0x6D]
  | .ldLIndHl => [0x6E]
  | .ldLA => [0x6F]
  | .ldIndHlB => [0x70]
  | .ldIndHlC => [0x71]
  | .ldIndHlD => [0x72]
  | .ldIndHlE => [0x73]
  | .ldIndHlH => [0x74]
  | .ldIndHlL => [0x75]
  | .halt => [0x76]
  | .ldIndHlA => [0x77]
  | .ldAB => [0x78]
  | .ldAC => [0x79]
  | .ldAD => [0x7A]
  | .ldAE => [0x7B]
  | .ldAH => [0x7C]
  | .ldAL => [0x7D]
  | .ldAIndHl => [0x7E]
  | .ldAA => [0x7F]
  | .addAB => [0x80]
  | .addAC => [0x81]
  | .addAD => [0x82]
  | .addAE => [0x83]
  | .addAH => [0x84]
  | .addAL => [0x85]
  | .addAIndHl => [0x86]
  | .addAA => [0x87]
  | .adcAB => [0x88]
  | .adcAC => [0x89]
  | .adcAD => [0x8A]
  | .adcAE => [0x8B]
  | .adcAH => [0x8C]
  | .adcAL => [0x8D]
  | .adcAIndHl => [0x8E]
  | .adcAA => [0x8F]
  | .subB => [0x90]
  | .subC => [0x91]
  | .subD => [0x92]
  | .subE => [0x93]
  | .subH => [0x94]
  | .subL => [0x95]
  | .subIndHl => [0x96]
  | .subA => [0x97]
  | .sbcAB => [0x98]
  | .sbcAC => [0x99]
  | .sbcAD => [0x9A]
  | .sbcAE => [0x9B]
  | .sbcAH => [0x9C]
  | .sbcAL => [0x9D]
  | .sbcAIndHl => [0x9E]
  | .sbcAA => [0x9F]
  | .andB => [0xA0]
  | .andC => [0xA1]
  | .andD => [0xA2]
  | .andE => [0xA3]
  | .andH => [0xA4]
  | .andL => [0xA5]
  | .andIndHl => [0xA6]
  | .andA => [0xA7]
  | .xorB => [0xA8]
  | .xorC => [0xA9]
  | .xorD => [0xAA]
  | .xorE => [0xAB]
  | .xorH => [0xAC]
  | .xorL => [0xAD]
  | .xorIndHl => [0xAE]
  | .xorA => [0xAF]
  | .orB => [0xB0]
  | .orC => [0xB1]
  | .orD => [0xB2]
  | .orE => [0xB3]
  | .orH => [0xB4]
  | .orL => [0xB5]
  | .orIndHl => [0xB6]
  | .orA => [0xB7]
  | .cpB => [0xB8]
  | .cpC => [0xB9]
  | .cpD => [0xBA]
  | .cpE => [0xBB]
  | .cpH => [0xBC]
  | .cpL => [0xBD]
  | .cpIndHl => [0xBE]
  | .cpA => [0xBF]
  | .retNz => [0xC0]
  | .popBc => [0xC1]
  | .jpNzNn nn => [0xC2, nn.extractLsb' 0 8, nn.extractLsb' 8 8]
  | .jpNn nn => [0xC3, nn.extractLsb' 0 8, nn.extractLsb' 8 8]
  | .callNzNn nn => [0xC4, nn.extractLsb' 0 8, nn.extractLsb' 8 8]
  | .pushBc => [0xC5]
  | .addAN n => [0xC6, n]
  | .rst00 => [0xC7]
  | .retZ => [0xC8]
  | .ret => [0xC9]
  | .jpZNn nn => [0xCA, nn.extractLsb' 0 8, nn.extractLsb' 8 8]
  | .cbPrefix => [0xCB]
  | .callZNn nn => [0xCC, nn.extractLsb' 0 8, nn.extractLsb' 8 8]
  | .callNn nn => [0xCD, nn.extractLsb' 0 8, nn.extractLsb' 8 8]
  | .adcAN n => [0xCE, n]
  | .rst08 => [0xCF]
  | .retNc => [0xD0]
  | .popDe => [0xD1]
  | .jpNcNn nn => [0xD2, nn.extractLsb' 0 8, nn.extractLsb' 8 8]
  | .illegalD3 => [0xD3]
  | .callNcNn nn => [0xD4, nn.extractLsb' 0 8, nn.extractLsb' 8 8]
  | .pushDe => [0xD5]
  | .subN n => [0xD6, n]
  | .rst10 => [0xD7]
  | .retC => [0xD8]
  | .reti => [0xD9]
  | .jpCNn nn => [0xDA, nn.extractLsb' 0 8, nn.extractLsb' 8 8]
  | .illegalDB => [0xDB]
  | .callCNn nn => [0xDC, nn.extractLsb' 0 8, nn.extractLsb' 8 8]
  | .illegalDD => [0xDD]
  | .sbcAN n => [0xDE, n]
  | .rst18 => [0xDF]
  | .ldhIndNA n => [0xE0, n]
  | .popHl => [0xE1]
  | .ldhIndCA => [0xE2]
  | .illegalE3 => [0xE3]
  | .illegalE4 => [0xE4]
  | .pushHl => [0xE5]
  | .andN n => [0xE6, n]
  | .rst20 => [0xE7]
  | .addSpE e => [0xE8, e]
  | .jpHl => [0xE9]
  | .ldIndNnA nn => [0xEA, nn.extractLsb' 0 8, nn.extractLsb' 8 8]
  | .illegalEB => [0xEB]
  | .illegalEC => [0xEC]
  | .illegalED => [0xED]
  | .xorN n => [0xEE, n]
  | .rst28 => [0xEF]
  | .ldhAIndN n => [0xF0, n]
  | .popAf => [0xF1]
  | .ldhAIndC => [0xF2]
  | .di => [0xF3]
  | .illegalF4 => [0xF4]
  | .pushAf => [0xF5]
  | .orN n => [0xF6, n]
  | .rst30 => [0xF7]
  | .ldHlSpE e => [0xF8, e]
  | .ldSpHl => [0xF9]
  | .ldAIndNn nn => [0xFA, nn.extractLsb' 0 8, nn.extractLsb' 8 8]
  | .ei => [0xFB]
  | .illegalFC => [0xFC]
  | .illegalFD => [0xFD]
  | .cpN n => [0xFE, n]
  | .rst38 => [0xFF]
  | .rlcB => [0xCB, 0x00]
  | .rlcC => [0xCB, 0x01]
  | .rlcD => [0xCB, 0x02]
  | .rlcE => [0xCB, 0x03]
  | .rlcH => [0xCB, 0x04]
  | .rlcL => [0xCB, 0x05]
  | .rlcIndHl => [0xCB, 0x06]
  | .rlcA => [0xCB, 0x07]
  | .rrcB => [0xCB, 0x08]
  | .rrcC => [0xCB, 0x09]
  | .rrcD => [0xCB, 0x0A]
  | .rrcE => [0xCB, 0x0B]
  | .rrcH => [0xCB, 0x0C]
  | .rrcL => [0xCB, 0x0D]
  | .rrcIndHl => [0xCB, 0x0E]
  | .rrcA => [0xCB, 0x0F]
  | .rlB => [0xCB, 0x10]
  | .rlC => [0xCB, 0x11]
  | .rlD => [0xCB, 0x12]
  | .rlE => [0xCB, 0x13]
  | .rlH => [0xCB, 0x14]
  | .rlL => [0xCB, 0x15]
  | .rlIndHl => [0xCB, 0x16]
  | .rlA => [0xCB, 0x17]
  | .rrB => [0xCB, 0x18]
  | .rrC => [0xCB, 0x19]
  | .rrD => [0xCB, 0x1A]
  | .rrE => [0xCB, 0x1B]
  | .rrH => [0xCB, 0x1C]
  | .rrL => [0xCB, 0x1D]
  | .rrIndHl => [0xCB, 0x1E]
  | .rrA => [0xCB, 0x1F]
  | .slaB => [0xCB, 0x20]
  | .slaC => [0xCB, 0x21]
  | .slaD => [0xCB, 0x22]
  | .slaE => [0xCB, 0x23]
  | .slaH => [0xCB, 0x24]
  | .slaL => [0xCB, 0x25]
  | .slaIndHl => [0xCB, 0x26]
  | .slaA => [0xCB, 0x27]
  | .sraB => [0xCB, 0x28]
  | .sraC => [0xCB, 0x29]
  | .sraD => [0xCB, 0x2A]
  | .sraE => [0xCB, 0x2B]
  | .sraH => [0xCB, 0x2C]
  | .sraL => [0xCB, 0x2D]
  | .sraIndHl => [0xCB, 0x2E]
  | .sraA => [0xCB, 0x2F]
  | .swapB => [0xCB, 0x30]
  | .swapC => [0xCB, 0x31]
  | .swapD => [0xCB, 0x32]
  | .swapE => [0xCB, 0x33]
  | .swapH => [0xCB, 0x34]
  | .swapL => [0xCB, 0x35]
  | .swapIndHl => [0xCB, 0x36]
  | .swapA => [0xCB, 0x37]
  | .srlB => [0xCB, 0x38]
  | .srlC => [0xCB, 0x39]
  | .srlD => [0xCB, 0x3A]
  | .srlE => [0xCB, 0x3B]
  | .srlH => [0xCB, 0x3C]
  | .srlL => [0xCB, 0x3D]
  | .srlIndHl => [0xCB, 0x3E]
  | .srlA => [0xCB, 0x3F]
  | .bit0B => [0xCB, 0x40]
  | .bit0C => [0xCB, 0x41]
  | .bit0D => [0xCB, 0x42]
  | .bit0E => [0xCB, 0x43]
  | .bit0H => [0xCB, 0x44]
  | .bit0L => [0xCB, 0x45]
  | .bit0IndHl => [0xCB, 0x46]
  | .bit0A => [0xCB, 0x47]
  | .bit1B => [0xCB, 0x48]
  | .bit1C => [0xCB, 0x49]
  | .bit1D => [0xCB, 0x4A]
  | .bit1E => [0xCB, 0x4B]
  | .bit1H => [0xCB, 0x4C]
  | .bit1L => [0xCB, 0x4D]
  | .bit1IndHl => [0xCB, 0x4E]
  | .bit1A => [0xCB, 0x4F]
  | .bit2B => [0xCB, 0x50]
  | .bit2C => [0xCB, 0x51]
  | .bit2D => [0xCB, 0x52]
  | .bit2E => [0xCB, 0x53]
  | .bit2H => [0xCB, 0x54]
  | .bit2L => [0xCB, 0x55]
  | .bit2IndHl => [0xCB, 0x56]
  | .bit2A => [0xCB, 0x57]
  | .bit3B => [0xCB, 0x58]
  | .bit3C => [0xCB, 0x59]
  | .bit3D => [0xCB, 0x5A]
  | .bit3E => [0xCB, 0x5B]
  | .bit3H => [0xCB, 0x5C]
  | .bit3L => [0xCB, 0x5D]
  | .bit3IndHl => [0xCB, 0x5E]
  | .bit3A => [0xCB, 0x5F]
  | .bit4B => [0xCB, 0x60]
  | .bit4C => [0xCB, 0x61]
  | .bit4D => [0xCB, 0x62]
  | .bit4E => [0xCB, 0x63]
  | .bit4H => [0xCB, 0x64]
  | .bit4L => [0xCB, 0x65]
  | .bit4IndHl => [0xCB, 0x66]
  | .bit4A => [0xCB, 0x67]
  | .bit5B => [0xCB, 0x68]
  | .bit5C => [0xCB, 0x69]
  | .bit5D => [0xCB, 0x6A]
  | .bit5E => [0xCB, 0x6B]
  | .bit5H => [0xCB, 0x6C]
  | .bit5L => [0xCB, 0x6D]
  | .bit5IndHl => [0xCB, 0x6E]
  | .bit5A => [0xCB, 0x6F]
  | .bit6B => [0xCB, 0x70]
  | .bit6C => [0xCB, 0x71]
  | .bit6D => [0xCB, 0x72]
  | .bit6E => [0xCB, 0x73]
  | .bit6H => [0xCB, 0x74]
  | .bit6L => [0xCB, 0x75]
  | .bit6IndHl => [0xCB, 0x76]
  | .bit6A => [0xCB, 0x77]
  | .bit7B => [0xCB, 0x78]
  | .bit7C => [0xCB, 0x79]
  | .bit7D => [0xCB, 0x7A]
  | .bit7E => [0xCB, 0x7B]
  | .bit7H => [0xCB, 0x7C]
  | .bit7L => [0xCB, 0x7D]
  | .bit7IndHl => [0xCB, 0x7E]
  | .bit7A => [0xCB, 0x7F]
  | .res0B => [0xCB, 0x80]
  | .res0C => [0xCB, 0x81]
  | .res0D => [0xCB, 0x82]
  | .res0E => [0xCB, 0x83]
  | .res0H => [0xCB, 0x84]
  | .res0L => [0xCB, 0x85]
  | .res0IndHl => [0xCB, 0x86]
  | .res0A => [0xCB, 0x87]
  | .res1B => [0xCB, 0x88]
  | .res1C => [0xCB, 0x89]
  | .res1D => [0xCB, 0x8A]
  | .res1E => [0xCB, 0x8B]
  | .res1H => [0xCB, 0x8C]
  | .res1L => [0xCB, 0x8D]
  | .res1IndHl => [0xCB, 0x8E]
  | .res1A => [0xCB, 0x8F]
  | .res2B => [0xCB, 0x90]
  | .res2C => [0xCB, 0x91]
  | .res2D => [0xCB, 0x92]
  | .res2E => [0xCB, 0x93]
  | .res2H => [0xCB, 0x94]
  | .res2L => [0xCB, 0x95]
  | .res2IndHl => [0xCB, 0x96]
  | .res2A => [0xCB, 0x97]
  | .res3B => [0xCB, 0x98]
  | .res3C => [0xCB, 0x99]
  | .res3D => [0xCB, 0x9A]
  | .res3E => [0xCB, 0x9B]
  | .res3H => [0xCB, 0x9C]
  | .res3L => [0xCB, 0x9D]
  | .res3IndHl => [0xCB, 0x9E]
  | .res3A => [0xCB, 0x9F]
  | .res4B => [0xCB, 0xA0]
  | .res4C => [0xCB, 0xA1]
  | .res4D => [0xCB, 0xA2]
  | .res4E => [0xCB, 0xA3]
  | .res4H => [0xCB, 0xA4]
  | .res4L => [0xCB, 0xA5]
  | .res4IndHl => [0xCB, 0xA6]
  | .res4A => [0xCB, 0xA7]
  | .res5B => [0xCB, 0xA8]
  | .res5C => [0xCB, 0xA9]
  | .res5D => [0xCB, 0xAA]
  | .res5E => [0xCB, 0xAB]
  | .res5H => [0xCB, 0xAC]
  | .res5L => [0xCB, 0xAD]
  | .res5IndHl => [0xCB, 0xAE]
  | .res5A => [0xCB, 0xAF]
  | .res6B => [0xCB, 0xB0]
  | .res6C => [0xCB, 0xB1]
  | .res6D => [0xCB, 0xB2]
  | .res6E => [0xCB, 0xB3]
  | .res6H => [0xCB, 0xB4]
  | .res6L => [0xCB, 0xB5]
  | .res6IndHl => [0xCB, 0xB6]
  | .res6A => [0xCB, 0xB7]
  | .res7B => [0xCB, 0xB8]
  | .res7C => [0xCB, 0xB9]
  | .res7D => [0xCB, 0xBA]
  | .res7E => [0xCB, 0xBB]
  | .res7H => [0xCB, 0xBC]
  | .res7L => [0xCB, 0xBD]
  | .res7IndHl => [0xCB, 0xBE]
  | .res7A => [0xCB, 0xBF]
  | .set0B => [0xCB, 0xC0]
  | .set0C => [0xCB, 0xC1]
  | .set0D => [0xCB, 0xC2]
  | .set0E => [0xCB, 0xC3]
  | .set0H => [0xCB, 0xC4]
  | .set0L => [0xCB, 0xC5]
  | .set0IndHl => [0xCB, 0xC6]
  | .set0A => [0xCB, 0xC7]
  | .set1B => [0xCB, 0xC8]
  | .set1C => [0xCB, 0xC9]
  | .set1D => [0xCB, 0xCA]
  | .set1E => [0xCB, 0xCB]
  | .set1H => [0xCB, 0xCC]
  | .set1L => [0xCB, 0xCD]
  | .set1IndHl => [0xCB, 0xCE]
  | .set1A => [0xCB, 0xCF]
  | .set2B => [0xCB, 0xD0]
  | .set2C => [0xCB, 0xD1]
  | .set2D => [0xCB, 0xD2]
  | .set2E => [0xCB, 0xD3]
  | .set2H => [0xCB, 0xD4]
  | .set2L => [0xCB, 0xD5]
  | .set2IndHl => [0xCB, 0xD6]
  | .set2A => [0xCB, 0xD7]
  | .set3B => [0xCB, 0xD8]
  | .set3C => [0xCB, 0xD9]
  | .set3D => [0xCB, 0xDA]
  | .set3E => [0xCB, 0xDB]
  | .set3H => [0xCB, 0xDC]
  | .set3L => [0xCB, 0xDD]
  | .set3IndHl => [0xCB, 0xDE]
  | .set3A => [0xCB, 0xDF]
  | .set4B => [0xCB, 0xE0]
  | .set4C => [0xCB, 0xE1]
  | .set4D => [0xCB, 0xE2]
  | .set4E => [0xCB, 0xE3]
  | .set4H => [0xCB, 0xE4]
  | .set4L => [0xCB, 0xE5]
  | .set4IndHl => [0xCB, 0xE6]
  | .set4A => [0xCB, 0xE7]
  | .set5B => [0xCB, 0xE8]
  | .set5C => [0xCB, 0xE9]
  | .set5D => [0xCB, 0xEA]
  | .set5E => [0xCB, 0xEB]
  | .set5H => [0xCB, 0xEC]
  | .set5L => [0xCB, 0xED]
  | .set5IndHl => [0xCB, 0xEE]
  | .set5A => [0xCB, 0xEF]
  | .set6B => [0xCB, 0xF0]
  | .set6C => [0xCB, 0xF1]
  | .set6D => [0xCB, 0xF2]
  | .set6E => [0xCB, 0xF3]
  | .set6H => [0xCB, 0xF4]
  | .set6L => [0xCB, 0xF5]
  | .set6IndHl => [0xCB, 0xF6]
  | .set6A => [0xCB, 0xF7]
  | .set7B => [0xCB, 0xF8]
  | .set7C => [0xCB, 0xF9]
  | .set7D => [0xCB, 0xFA]
  | .set7E => [0xCB, 0xFB]
  | .set7H => [0xCB, 0xFC]
  | .set7L => [0xCB, 0xFD]
  | .set7IndHl => [0xCB, 0xFE]
  | .set7A => [0xCB, 0xFF]

end Sys2Proof
end

