-- ==== Sys2Proof/Machine/Bit.lean ====
section
/-! DEFINITION. Single-bit operations (44_bit.md): BIT, RES and SET on a register and on (HL). -/

namespace Sys2Proof.Machine

/-- BIT b,r (R290): no register is written. -/
def testBitReg (b : Fin 8) (r : Reg8) (s : State) : Out :=
  .next { s with flags := bitFlags b (s.reg r) s.flags }

/-- BIT b,(HL) (R291): no write cycle. -/
def testBitHl (b : Fin 8) (s : State) : Out :=
  ((memRead s.hl s).bind fun v s1 => .ok () { s1 with flags := bitFlags b v s1.flags }).out

/-- RES b,r (R292). -/
def clearBitReg (b : Fin 8) (r : Reg8) (s : State) : Out := .next (s.setReg r (resBit b (s.reg r)))

/-- RES b,(HL) (R293): the write happens even when the bit was 0. -/
def clearBitHl (b : Fin 8) (s : State) : Out := modifyHl (fun v f => (resBit b v, f)) s

/-- SET b,r (R294). -/
def assertBitReg (b : Fin 8) (r : Reg8) (s : State) : Out := .next (s.setReg r (setBit b (s.reg r)))

/-- SET b,(HL) (R295). -/
def assertBitHl (b : Fin 8) (s : State) : Out := modifyHl (fun v f => (setBit b v, f)) s

/-! ### The instructions -/

/-- `BIT 0,B` (R290). -/
def execBit0B (s : State) : Out := testBitReg 0 .b s
/-- `BIT 0,C` (R290). -/
def execBit0C (s : State) : Out := testBitReg 0 .c s
/-- `BIT 0,D` (R290). -/
def execBit0D (s : State) : Out := testBitReg 0 .d s
/-- `BIT 0,E` (R290). -/
def execBit0E (s : State) : Out := testBitReg 0 .e s
/-- `BIT 0,H` (R290). -/
def execBit0H (s : State) : Out := testBitReg 0 .h s
/-- `BIT 0,L` (R290). -/
def execBit0L (s : State) : Out := testBitReg 0 .l s
/-- `BIT 0,(HL)` (R291). -/
def execBit0IndHl (s : State) : Out := testBitHl 0 s
/-- `BIT 0,A` (R290). -/
def execBit0A (s : State) : Out := testBitReg 0 .a s
/-- `BIT 1,B` (R290). -/
def execBit1B (s : State) : Out := testBitReg 1 .b s
/-- `BIT 1,C` (R290). -/
def execBit1C (s : State) : Out := testBitReg 1 .c s
/-- `BIT 1,D` (R290). -/
def execBit1D (s : State) : Out := testBitReg 1 .d s
/-- `BIT 1,E` (R290). -/
def execBit1E (s : State) : Out := testBitReg 1 .e s
/-- `BIT 1,H` (R290). -/
def execBit1H (s : State) : Out := testBitReg 1 .h s
/-- `BIT 1,L` (R290). -/
def execBit1L (s : State) : Out := testBitReg 1 .l s
/-- `BIT 1,(HL)` (R291). -/
def execBit1IndHl (s : State) : Out := testBitHl 1 s
/-- `BIT 1,A` (R290). -/
def execBit1A (s : State) : Out := testBitReg 1 .a s
/-- `BIT 2,B` (R290). -/
def execBit2B (s : State) : Out := testBitReg 2 .b s
/-- `BIT 2,C` (R290). -/
def execBit2C (s : State) : Out := testBitReg 2 .c s
/-- `BIT 2,D` (R290). -/
def execBit2D (s : State) : Out := testBitReg 2 .d s
/-- `BIT 2,E` (R290). -/
def execBit2E (s : State) : Out := testBitReg 2 .e s
/-- `BIT 2,H` (R290). -/
def execBit2H (s : State) : Out := testBitReg 2 .h s
/-- `BIT 2,L` (R290). -/
def execBit2L (s : State) : Out := testBitReg 2 .l s
/-- `BIT 2,(HL)` (R291). -/
def execBit2IndHl (s : State) : Out := testBitHl 2 s
/-- `BIT 2,A` (R290). -/
def execBit2A (s : State) : Out := testBitReg 2 .a s
/-- `BIT 3,B` (R290). -/
def execBit3B (s : State) : Out := testBitReg 3 .b s
/-- `BIT 3,C` (R290). -/
def execBit3C (s : State) : Out := testBitReg 3 .c s
/-- `BIT 3,D` (R290). -/
def execBit3D (s : State) : Out := testBitReg 3 .d s
/-- `BIT 3,E` (R290). -/
def execBit3E (s : State) : Out := testBitReg 3 .e s
/-- `BIT 3,H` (R290). -/
def execBit3H (s : State) : Out := testBitReg 3 .h s
/-- `BIT 3,L` (R290). -/
def execBit3L (s : State) : Out := testBitReg 3 .l s
/-- `BIT 3,(HL)` (R291). -/
def execBit3IndHl (s : State) : Out := testBitHl 3 s
/-- `BIT 3,A` (R290). -/
def execBit3A (s : State) : Out := testBitReg 3 .a s
/-- `BIT 4,B` (R290). -/
def execBit4B (s : State) : Out := testBitReg 4 .b s
/-- `BIT 4,C` (R290). -/
def execBit4C (s : State) : Out := testBitReg 4 .c s
/-- `BIT 4,D` (R290). -/
def execBit4D (s : State) : Out := testBitReg 4 .d s
/-- `BIT 4,E` (R290). -/
def execBit4E (s : State) : Out := testBitReg 4 .e s
/-- `BIT 4,H` (R290). -/
def execBit4H (s : State) : Out := testBitReg 4 .h s
/-- `BIT 4,L` (R290). -/
def execBit4L (s : State) : Out := testBitReg 4 .l s
/-- `BIT 4,(HL)` (R291). -/
def execBit4IndHl (s : State) : Out := testBitHl 4 s
/-- `BIT 4,A` (R290). -/
def execBit4A (s : State) : Out := testBitReg 4 .a s
/-- `BIT 5,B` (R290). -/
def execBit5B (s : State) : Out := testBitReg 5 .b s
/-- `BIT 5,C` (R290). -/
def execBit5C (s : State) : Out := testBitReg 5 .c s
/-- `BIT 5,D` (R290). -/
def execBit5D (s : State) : Out := testBitReg 5 .d s
/-- `BIT 5,E` (R290). -/
def execBit5E (s : State) : Out := testBitReg 5 .e s
/-- `BIT 5,H` (R290). -/
def execBit5H (s : State) : Out := testBitReg 5 .h s
/-- `BIT 5,L` (R290). -/
def execBit5L (s : State) : Out := testBitReg 5 .l s
/-- `BIT 5,(HL)` (R291). -/
def execBit5IndHl (s : State) : Out := testBitHl 5 s
/-- `BIT 5,A` (R290). -/
def execBit5A (s : State) : Out := testBitReg 5 .a s
/-- `BIT 6,B` (R290). -/
def execBit6B (s : State) : Out := testBitReg 6 .b s
/-- `BIT 6,C` (R290). -/
def execBit6C (s : State) : Out := testBitReg 6 .c s
/-- `BIT 6,D` (R290). -/
def execBit6D (s : State) : Out := testBitReg 6 .d s
/-- `BIT 6,E` (R290). -/
def execBit6E (s : State) : Out := testBitReg 6 .e s
/-- `BIT 6,H` (R290). -/
def execBit6H (s : State) : Out := testBitReg 6 .h s
/-- `BIT 6,L` (R290). -/
def execBit6L (s : State) : Out := testBitReg 6 .l s
/-- `BIT 6,(HL)` (R291). -/
def execBit6IndHl (s : State) : Out := testBitHl 6 s
/-- `BIT 6,A` (R290). -/
def execBit6A (s : State) : Out := testBitReg 6 .a s
/-- `BIT 7,B` (R290). -/
def execBit7B (s : State) : Out := testBitReg 7 .b s
/-- `BIT 7,C` (R290). -/
def execBit7C (s : State) : Out := testBitReg 7 .c s
/-- `BIT 7,D` (R290). -/
def execBit7D (s : State) : Out := testBitReg 7 .d s
/-- `BIT 7,E` (R290). -/
def execBit7E (s : State) : Out := testBitReg 7 .e s
/-- `BIT 7,H` (R290). -/
def execBit7H (s : State) : Out := testBitReg 7 .h s
/-- `BIT 7,L` (R290). -/
def execBit7L (s : State) : Out := testBitReg 7 .l s
/-- `BIT 7,(HL)` (R291). -/
def execBit7IndHl (s : State) : Out := testBitHl 7 s
/-- `BIT 7,A` (R290). -/
def execBit7A (s : State) : Out := testBitReg 7 .a s
/-- `RES 0,B` (R292). -/
def execRes0B (s : State) : Out := clearBitReg 0 .b s
/-- `RES 0,C` (R292). -/
def execRes0C (s : State) : Out := clearBitReg 0 .c s
/-- `RES 0,D` (R292). -/
def execRes0D (s : State) : Out := clearBitReg 0 .d s
/-- `RES 0,E` (R292). -/
def execRes0E (s : State) : Out := clearBitReg 0 .e s
/-- `RES 0,H` (R292). -/
def execRes0H (s : State) : Out := clearBitReg 0 .h s
/-- `RES 0,L` (R292). -/
def execRes0L (s : State) : Out := clearBitReg 0 .l s
/-- `RES 0,(HL)` (R293). -/
def execRes0IndHl (s : State) : Out := clearBitHl 0 s
/-- `RES 0,A` (R292). -/
def execRes0A (s : State) : Out := clearBitReg 0 .a s
/-- `RES 1,B` (R292). -/
def execRes1B (s : State) : Out := clearBitReg 1 .b s
/-- `RES 1,C` (R292). -/
def execRes1C (s : State) : Out := clearBitReg 1 .c s
/-- `RES 1,D` (R292). -/
def execRes1D (s : State) : Out := clearBitReg 1 .d s
/-- `RES 1,E` (R292). -/
def execRes1E (s : State) : Out := clearBitReg 1 .e s
/-- `RES 1,H` (R292). -/
def execRes1H (s : State) : Out := clearBitReg 1 .h s
/-- `RES 1,L` (R292). -/
def execRes1L (s : State) : Out := clearBitReg 1 .l s
/-- `RES 1,(HL)` (R293). -/
def execRes1IndHl (s : State) : Out := clearBitHl 1 s
/-- `RES 1,A` (R292). -/
def execRes1A (s : State) : Out := clearBitReg 1 .a s
/-- `RES 2,B` (R292). -/
def execRes2B (s : State) : Out := clearBitReg 2 .b s
/-- `RES 2,C` (R292). -/
def execRes2C (s : State) : Out := clearBitReg 2 .c s
/-- `RES 2,D` (R292). -/
def execRes2D (s : State) : Out := clearBitReg 2 .d s
/-- `RES 2,E` (R292). -/
def execRes2E (s : State) : Out := clearBitReg 2 .e s
/-- `RES 2,H` (R292). -/
def execRes2H (s : State) : Out := clearBitReg 2 .h s
/-- `RES 2,L` (R292). -/
def execRes2L (s : State) : Out := clearBitReg 2 .l s
/-- `RES 2,(HL)` (R293). -/
def execRes2IndHl (s : State) : Out := clearBitHl 2 s
/-- `RES 2,A` (R292). -/
def execRes2A (s : State) : Out := clearBitReg 2 .a s
/-- `RES 3,B` (R292). -/
def execRes3B (s : State) : Out := clearBitReg 3 .b s
/-- `RES 3,C` (R292). -/
def execRes3C (s : State) : Out := clearBitReg 3 .c s
/-- `RES 3,D` (R292). -/
def execRes3D (s : State) : Out := clearBitReg 3 .d s
/-- `RES 3,E` (R292). -/
def execRes3E (s : State) : Out := clearBitReg 3 .e s
/-- `RES 3,H` (R292). -/
def execRes3H (s : State) : Out := clearBitReg 3 .h s
/-- `RES 3,L` (R292). -/
def execRes3L (s : State) : Out := clearBitReg 3 .l s
/-- `RES 3,(HL)` (R293). -/
def execRes3IndHl (s : State) : Out := clearBitHl 3 s
/-- `RES 3,A` (R292). -/
def execRes3A (s : State) : Out := clearBitReg 3 .a s
/-- `RES 4,B` (R292). -/
def execRes4B (s : State) : Out := clearBitReg 4 .b s
/-- `RES 4,C` (R292). -/
def execRes4C (s : State) : Out := clearBitReg 4 .c s
/-- `RES 4,D` (R292). -/
def execRes4D (s : State) : Out := clearBitReg 4 .d s
/-- `RES 4,E` (R292). -/
def execRes4E (s : State) : Out := clearBitReg 4 .e s
/-- `RES 4,H` (R292). -/
def execRes4H (s : State) : Out := clearBitReg 4 .h s
/-- `RES 4,L` (R292). -/
def execRes4L (s : State) : Out := clearBitReg 4 .l s
/-- `RES 4,(HL)` (R293). -/
def execRes4IndHl (s : State) : Out := clearBitHl 4 s
/-- `RES 4,A` (R292). -/
def execRes4A (s : State) : Out := clearBitReg 4 .a s
/-- `RES 5,B` (R292). -/
def execRes5B (s : State) : Out := clearBitReg 5 .b s
/-- `RES 5,C` (R292). -/
def execRes5C (s : State) : Out := clearBitReg 5 .c s
/-- `RES 5,D` (R292). -/
def execRes5D (s : State) : Out := clearBitReg 5 .d s
/-- `RES 5,E` (R292). -/
def execRes5E (s : State) : Out := clearBitReg 5 .e s
/-- `RES 5,H` (R292). -/
def execRes5H (s : State) : Out := clearBitReg 5 .h s
/-- `RES 5,L` (R292). -/
def execRes5L (s : State) : Out := clearBitReg 5 .l s
/-- `RES 5,(HL)` (R293). -/
def execRes5IndHl (s : State) : Out := clearBitHl 5 s
/-- `RES 5,A` (R292). -/
def execRes5A (s : State) : Out := clearBitReg 5 .a s
/-- `RES 6,B` (R292). -/
def execRes6B (s : State) : Out := clearBitReg 6 .b s
/-- `RES 6,C` (R292). -/
def execRes6C (s : State) : Out := clearBitReg 6 .c s
/-- `RES 6,D` (R292). -/
def execRes6D (s : State) : Out := clearBitReg 6 .d s
/-- `RES 6,E` (R292). -/
def execRes6E (s : State) : Out := clearBitReg 6 .e s
/-- `RES 6,H` (R292). -/
def execRes6H (s : State) : Out := clearBitReg 6 .h s
/-- `RES 6,L` (R292). -/
def execRes6L (s : State) : Out := clearBitReg 6 .l s
/-- `RES 6,(HL)` (R293). -/
def execRes6IndHl (s : State) : Out := clearBitHl 6 s
/-- `RES 6,A` (R292). -/
def execRes6A (s : State) : Out := clearBitReg 6 .a s
/-- `RES 7,B` (R292). -/
def execRes7B (s : State) : Out := clearBitReg 7 .b s
/-- `RES 7,C` (R292). -/
def execRes7C (s : State) : Out := clearBitReg 7 .c s
/-- `RES 7,D` (R292). -/
def execRes7D (s : State) : Out := clearBitReg 7 .d s
/-- `RES 7,E` (R292). -/
def execRes7E (s : State) : Out := clearBitReg 7 .e s
/-- `RES 7,H` (R292). -/
def execRes7H (s : State) : Out := clearBitReg 7 .h s
/-- `RES 7,L` (R292). -/
def execRes7L (s : State) : Out := clearBitReg 7 .l s
/-- `RES 7,(HL)` (R293). -/
def execRes7IndHl (s : State) : Out := clearBitHl 7 s
/-- `RES 7,A` (R292). -/
def execRes7A (s : State) : Out := clearBitReg 7 .a s
/-- `SET 0,B` (R294). -/
def execSet0B (s : State) : Out := assertBitReg 0 .b s
/-- `SET 0,C` (R294). -/
def execSet0C (s : State) : Out := assertBitReg 0 .c s
/-- `SET 0,D` (R294). -/
def execSet0D (s : State) : Out := assertBitReg 0 .d s
/-- `SET 0,E` (R294). -/
def execSet0E (s : State) : Out := assertBitReg 0 .e s
/-- `SET 0,H` (R294). -/
def execSet0H (s : State) : Out := assertBitReg 0 .h s
/-- `SET 0,L` (R294). -/
def execSet0L (s : State) : Out := assertBitReg 0 .l s
/-- `SET 0,(HL)` (R295). -/
def execSet0IndHl (s : State) : Out := assertBitHl 0 s
/-- `SET 0,A` (R294). -/
def execSet0A (s : State) : Out := assertBitReg 0 .a s
/-- `SET 1,B` (R294). -/
def execSet1B (s : State) : Out := assertBitReg 1 .b s
/-- `SET 1,C` (R294). -/
def execSet1C (s : State) : Out := assertBitReg 1 .c s
/-- `SET 1,D` (R294). -/
def execSet1D (s : State) : Out := assertBitReg 1 .d s
/-- `SET 1,E` (R294). -/
def execSet1E (s : State) : Out := assertBitReg 1 .e s
/-- `SET 1,H` (R294). -/
def execSet1H (s : State) : Out := assertBitReg 1 .h s
/-- `SET 1,L` (R294). -/
def execSet1L (s : State) : Out := assertBitReg 1 .l s
/-- `SET 1,(HL)` (R295). -/
def execSet1IndHl (s : State) : Out := assertBitHl 1 s
/-- `SET 1,A` (R294). -/
def execSet1A (s : State) : Out := assertBitReg 1 .a s
/-- `SET 2,B` (R294). -/
def execSet2B (s : State) : Out := assertBitReg 2 .b s
/-- `SET 2,C` (R294). -/
def execSet2C (s : State) : Out := assertBitReg 2 .c s
/-- `SET 2,D` (R294). -/
def execSet2D (s : State) : Out := assertBitReg 2 .d s
/-- `SET 2,E` (R294). -/
def execSet2E (s : State) : Out := assertBitReg 2 .e s
/-- `SET 2,H` (R294). -/
def execSet2H (s : State) : Out := assertBitReg 2 .h s
/-- `SET 2,L` (R294). -/
def execSet2L (s : State) : Out := assertBitReg 2 .l s
/-- `SET 2,(HL)` (R295). -/
def execSet2IndHl (s : State) : Out := assertBitHl 2 s
/-- `SET 2,A` (R294). -/
def execSet2A (s : State) : Out := assertBitReg 2 .a s
/-- `SET 3,B` (R294). -/
def execSet3B (s : State) : Out := assertBitReg 3 .b s
/-- `SET 3,C` (R294). -/
def execSet3C (s : State) : Out := assertBitReg 3 .c s
/-- `SET 3,D` (R294). -/
def execSet3D (s : State) : Out := assertBitReg 3 .d s
/-- `SET 3,E` (R294). -/
def execSet3E (s : State) : Out := assertBitReg 3 .e s
/-- `SET 3,H` (R294). -/
def execSet3H (s : State) : Out := assertBitReg 3 .h s
/-- `SET 3,L` (R294). -/
def execSet3L (s : State) : Out := assertBitReg 3 .l s
/-- `SET 3,(HL)` (R295). -/
def execSet3IndHl (s : State) : Out := assertBitHl 3 s
/-- `SET 3,A` (R294). -/
def execSet3A (s : State) : Out := assertBitReg 3 .a s
/-- `SET 4,B` (R294). -/
def execSet4B (s : State) : Out := assertBitReg 4 .b s
/-- `SET 4,C` (R294). -/
def execSet4C (s : State) : Out := assertBitReg 4 .c s
/-- `SET 4,D` (R294). -/
def execSet4D (s : State) : Out := assertBitReg 4 .d s
/-- `SET 4,E` (R294). -/
def execSet4E (s : State) : Out := assertBitReg 4 .e s
/-- `SET 4,H` (R294). -/
def execSet4H (s : State) : Out := assertBitReg 4 .h s
/-- `SET 4,L` (R294). -/
def execSet4L (s : State) : Out := assertBitReg 4 .l s
/-- `SET 4,(HL)` (R295). -/
def execSet4IndHl (s : State) : Out := assertBitHl 4 s
/-- `SET 4,A` (R294). -/
def execSet4A (s : State) : Out := assertBitReg 4 .a s
/-- `SET 5,B` (R294). -/
def execSet5B (s : State) : Out := assertBitReg 5 .b s
/-- `SET 5,C` (R294). -/
def execSet5C (s : State) : Out := assertBitReg 5 .c s
/-- `SET 5,D` (R294). -/
def execSet5D (s : State) : Out := assertBitReg 5 .d s
/-- `SET 5,E` (R294). -/
def execSet5E (s : State) : Out := assertBitReg 5 .e s
/-- `SET 5,H` (R294). -/
def execSet5H (s : State) : Out := assertBitReg 5 .h s
/-- `SET 5,L` (R294). -/
def execSet5L (s : State) : Out := assertBitReg 5 .l s
/-- `SET 5,(HL)` (R295). -/
def execSet5IndHl (s : State) : Out := assertBitHl 5 s
/-- `SET 5,A` (R294). -/
def execSet5A (s : State) : Out := assertBitReg 5 .a s
/-- `SET 6,B` (R294). -/
def execSet6B (s : State) : Out := assertBitReg 6 .b s
/-- `SET 6,C` (R294). -/
def execSet6C (s : State) : Out := assertBitReg 6 .c s
/-- `SET 6,D` (R294). -/
def execSet6D (s : State) : Out := assertBitReg 6 .d s
/-- `SET 6,E` (R294). -/
def execSet6E (s : State) : Out := assertBitReg 6 .e s
/-- `SET 6,H` (R294). -/
def execSet6H (s : State) : Out := assertBitReg 6 .h s
/-- `SET 6,L` (R294). -/
def execSet6L (s : State) : Out := assertBitReg 6 .l s
/-- `SET 6,(HL)` (R295). -/
def execSet6IndHl (s : State) : Out := assertBitHl 6 s
/-- `SET 6,A` (R294). -/
def execSet6A (s : State) : Out := assertBitReg 6 .a s
/-- `SET 7,B` (R294). -/
def execSet7B (s : State) : Out := assertBitReg 7 .b s
/-- `SET 7,C` (R294). -/
def execSet7C (s : State) : Out := assertBitReg 7 .c s
/-- `SET 7,D` (R294). -/
def execSet7D (s : State) : Out := assertBitReg 7 .d s
/-- `SET 7,E` (R294). -/
def execSet7E (s : State) : Out := assertBitReg 7 .e s
/-- `SET 7,H` (R294). -/
def execSet7H (s : State) : Out := assertBitReg 7 .h s
/-- `SET 7,L` (R294). -/
def execSet7L (s : State) : Out := assertBitReg 7 .l s
/-- `SET 7,(HL)` (R295). -/
def execSet7IndHl (s : State) : Out := assertBitHl 7 s
/-- `SET 7,A` (R294). -/
def execSet7A (s : State) : Out := assertBitReg 7 .a s

end Sys2Proof.Machine
end

