-- ==== Sys2Proof/Machine/RotateShift.lean ====
section
/-! DEFINITION. Rotates and shifts (43_rotate_shift.md): the four accumulator forms and the eight CB
operations on a register and on (HL). -/

namespace Sys2Proof.Machine

/-- RLCA, RRCA, RLA, RRA (R258 to R261). -/
def rotAccumulator (op : RotOp) (s : State) : Out :=
  let x := rotAcc op s.a s.flags
  .next { s with a := x.1, flags := x.2 }

/-- A CB rotate or shift of a register (R262 and the even rules to R276). -/
def rotReg (op : RotOp) (r : Reg8) (s : State) : Out :=
  let x := rotCb op (s.reg r) s.flags
  .next { s.setReg r x.1 with flags := x.2 }

/-- A CB rotate or shift of the byte at HL (R263 and the odd rules to R277). -/
def rotHl (op : RotOp) (s : State) : Out := modifyHl (rotCb op) s

/-! ### The instructions -/

/-- `RLCA` (R258). -/
def execRlca (s : State) : Out := rotAccumulator .rlc s
/-- `RRCA` (R259). -/
def execRrca (s : State) : Out := rotAccumulator .rrc s
/-- `RLA` (R260). -/
def execRla (s : State) : Out := rotAccumulator .rl s
/-- `RRA` (R261). -/
def execRra (s : State) : Out := rotAccumulator .rr s
/-- `RLC B` (R262). -/
def execRlcB (s : State) : Out := rotReg .rlc .b s
/-- `RLC C` (R262). -/
def execRlcC (s : State) : Out := rotReg .rlc .c s
/-- `RLC D` (R262). -/
def execRlcD (s : State) : Out := rotReg .rlc .d s
/-- `RLC E` (R262). -/
def execRlcE (s : State) : Out := rotReg .rlc .e s
/-- `RLC H` (R262). -/
def execRlcH (s : State) : Out := rotReg .rlc .h s
/-- `RLC L` (R262). -/
def execRlcL (s : State) : Out := rotReg .rlc .l s
/-- `RLC (HL)` (R263). -/
def execRlcIndHl (s : State) : Out := rotHl .rlc s
/-- `RLC A` (R262). -/
def execRlcA (s : State) : Out := rotReg .rlc .a s
/-- `RRC B` (R264). -/
def execRrcB (s : State) : Out := rotReg .rrc .b s
/-- `RRC C` (R264). -/
def execRrcC (s : State) : Out := rotReg .rrc .c s
/-- `RRC D` (R264). -/
def execRrcD (s : State) : Out := rotReg .rrc .d s
/-- `RRC E` (R264). -/
def execRrcE (s : State) : Out := rotReg .rrc .e s
/-- `RRC H` (R264). -/
def execRrcH (s : State) : Out := rotReg .rrc .h s
/-- `RRC L` (R264). -/
def execRrcL (s : State) : Out := rotReg .rrc .l s
/-- `RRC (HL)` (R265). -/
def execRrcIndHl (s : State) : Out := rotHl .rrc s
/-- `RRC A` (R264). -/
def execRrcA (s : State) : Out := rotReg .rrc .a s
/-- `RL B` (R266). -/
def execRlB (s : State) : Out := rotReg .rl .b s
/-- `RL C` (R266). -/
def execRlC (s : State) : Out := rotReg .rl .c s
/-- `RL D` (R266). -/
def execRlD (s : State) : Out := rotReg .rl .d s
/-- `RL E` (R266). -/
def execRlE (s : State) : Out := rotReg .rl .e s
/-- `RL H` (R266). -/
def execRlH (s : State) : Out := rotReg .rl .h s
/-- `RL L` (R266). -/
def execRlL (s : State) : Out := rotReg .rl .l s
/-- `RL (HL)` (R267). -/
def execRlIndHl (s : State) : Out := rotHl .rl s
/-- `RL A` (R266). -/
def execRlA (s : State) : Out := rotReg .rl .a s
/-- `RR B` (R268). -/
def execRrB (s : State) : Out := rotReg .rr .b s
/-- `RR C` (R268). -/
def execRrC (s : State) : Out := rotReg .rr .c s
/-- `RR D` (R268). -/
def execRrD (s : State) : Out := rotReg .rr .d s
/-- `RR E` (R268). -/
def execRrE (s : State) : Out := rotReg .rr .e s
/-- `RR H` (R268). -/
def execRrH (s : State) : Out := rotReg .rr .h s
/-- `RR L` (R268). -/
def execRrL (s : State) : Out := rotReg .rr .l s
/-- `RR (HL)` (R269). -/
def execRrIndHl (s : State) : Out := rotHl .rr s
/-- `RR A` (R268). -/
def execRrA (s : State) : Out := rotReg .rr .a s
/-- `SLA B` (R270). -/
def execSlaB (s : State) : Out := rotReg .sla .b s
/-- `SLA C` (R270). -/
def execSlaC (s : State) : Out := rotReg .sla .c s
/-- `SLA D` (R270). -/
def execSlaD (s : State) : Out := rotReg .sla .d s
/-- `SLA E` (R270). -/
def execSlaE (s : State) : Out := rotReg .sla .e s
/-- `SLA H` (R270). -/
def execSlaH (s : State) : Out := rotReg .sla .h s
/-- `SLA L` (R270). -/
def execSlaL (s : State) : Out := rotReg .sla .l s
/-- `SLA (HL)` (R271). -/
def execSlaIndHl (s : State) : Out := rotHl .sla s
/-- `SLA A` (R270). -/
def execSlaA (s : State) : Out := rotReg .sla .a s
/-- `SRA B` (R272). -/
def execSraB (s : State) : Out := rotReg .sra .b s
/-- `SRA C` (R272). -/
def execSraC (s : State) : Out := rotReg .sra .c s
/-- `SRA D` (R272). -/
def execSraD (s : State) : Out := rotReg .sra .d s
/-- `SRA E` (R272). -/
def execSraE (s : State) : Out := rotReg .sra .e s
/-- `SRA H` (R272). -/
def execSraH (s : State) : Out := rotReg .sra .h s
/-- `SRA L` (R272). -/
def execSraL (s : State) : Out := rotReg .sra .l s
/-- `SRA (HL)` (R273). -/
def execSraIndHl (s : State) : Out := rotHl .sra s
/-- `SRA A` (R272). -/
def execSraA (s : State) : Out := rotReg .sra .a s
/-- `SWAP B` (R274). -/
def execSwapB (s : State) : Out := rotReg .swap .b s
/-- `SWAP C` (R274). -/
def execSwapC (s : State) : Out := rotReg .swap .c s
/-- `SWAP D` (R274). -/
def execSwapD (s : State) : Out := rotReg .swap .d s
/-- `SWAP E` (R274). -/
def execSwapE (s : State) : Out := rotReg .swap .e s
/-- `SWAP H` (R274). -/
def execSwapH (s : State) : Out := rotReg .swap .h s
/-- `SWAP L` (R274). -/
def execSwapL (s : State) : Out := rotReg .swap .l s
/-- `SWAP (HL)` (R275). -/
def execSwapIndHl (s : State) : Out := rotHl .swap s
/-- `SWAP A` (R274). -/
def execSwapA (s : State) : Out := rotReg .swap .a s
/-- `SRL B` (R276). -/
def execSrlB (s : State) : Out := rotReg .srl .b s
/-- `SRL C` (R276). -/
def execSrlC (s : State) : Out := rotReg .srl .c s
/-- `SRL D` (R276). -/
def execSrlD (s : State) : Out := rotReg .srl .d s
/-- `SRL E` (R276). -/
def execSrlE (s : State) : Out := rotReg .srl .e s
/-- `SRL H` (R276). -/
def execSrlH (s : State) : Out := rotReg .srl .h s
/-- `SRL L` (R276). -/
def execSrlL (s : State) : Out := rotReg .srl .l s
/-- `SRL (HL)` (R277). -/
def execSrlIndHl (s : State) : Out := rotHl .srl s
/-- `SRL A` (R276). -/
def execSrlA (s : State) : Out := rotReg .srl .a s

end Sys2Proof.Machine
end

