-- ==== Sys2Proof/Machine/System.lean ====
section
/-! DEFINITION. System control (48_system.md): NOP, HALT, STOP, DI, EI, the CB prefix and the illegal
opcodes. -/

namespace Sys2Proof.Machine

/-- NOP (R365). -/
def noOperation (s : State) : Out := .next s

/-- HALT (R366): with IME = 0 and a request pending, the HALT bug. -/
def haltCpu (s : State) : Out :=
  if s.ime then .next { s with runState := .halted }
  else if !pending s then .next { s with runState := .halted }
  else .next { s with runState := .haltedBug }

/-- STOP (R367): the second byte is skipped unread. -/
def stopCpu (s : State) : Out := .next { s with pc := s.pc + 1, runState := .stopped }

/-- DI (R368). -/
def disableInterrupts (s : State) : Out := .next { s with ime := false, imePending := false }

/-- EI (R369): nothing where IME is set already. -/
def enableInterrupts (s : State) : Out :=
  .next (if s.ime then s else { s with imePending := true })

/-- The CB instruction of a CB opcode by its fields `g`, `y` and `z` (R127). -/
def runCbOpcode (c : Byte) (s : State) : Out :=
  let y := c.extractLsb' 3 3
  let bitNo : Fin 8 := y.toFin
  match c.extractLsb' 6 2, regField (c.extractLsb' 0 3) with
  | 0#2, some r => rotReg (rotField y) r s
  | 0#2, none => rotHl (rotField y) s
  | 1#2, some r => testBitReg bitNo r s
  | 1#2, none => testBitHl bitNo s
  | 2#2, some r => clearBitReg bitNo r s
  | 2#2, none => clearBitHl bitNo s
  | 3#2, some r => assertBitReg bitNo r s
  | 3#2, none => assertBitHl bitNo s

/-- The CB prefix (R157, R370): the next byte is fetched and selects the instruction that runs. -/
def cbPrefix (s : State) : Out :=
  match fetchByte s with
  | .ok c s1 => runCbOpcode c s1
  | .fault k s1 => raise k s1

/-- An illegal opcode (R128, R371): the fault names the address the opcode was fetched from. -/
def illegalOpcode (op : Byte) (s : State) : Out := raise (.illegalOpcode op s.opPc) s

/-! ### The instructions -/

/-- `NOP` (R365). -/
def execNop (s : State) : Out := noOperation s
/-- `STOP` (R367). -/
def execStop (s : State) : Out := stopCpu s
/-- `HALT` (R366). -/
def execHalt (s : State) : Out := haltCpu s
/-- `CB prefix` (R370). -/
def execCbPrefix (s : State) : Out := cbPrefix s
/-- `illegal 0xD3` (R371). -/
def execIllegalD3 (s : State) : Out := illegalOpcode 0xD3 s
/-- `illegal 0xDB` (R371). -/
def execIllegalDB (s : State) : Out := illegalOpcode 0xDB s
/-- `illegal 0xDD` (R371). -/
def execIllegalDD (s : State) : Out := illegalOpcode 0xDD s
/-- `illegal 0xE3` (R371). -/
def execIllegalE3 (s : State) : Out := illegalOpcode 0xE3 s
/-- `illegal 0xE4` (R371). -/
def execIllegalE4 (s : State) : Out := illegalOpcode 0xE4 s
/-- `illegal 0xEB` (R371). -/
def execIllegalEB (s : State) : Out := illegalOpcode 0xEB s
/-- `illegal 0xEC` (R371). -/
def execIllegalEC (s : State) : Out := illegalOpcode 0xEC s
/-- `illegal 0xED` (R371). -/
def execIllegalED (s : State) : Out := illegalOpcode 0xED s
/-- `DI` (R368). -/
def execDi (s : State) : Out := disableInterrupts s
/-- `illegal 0xF4` (R371). -/
def execIllegalF4 (s : State) : Out := illegalOpcode 0xF4 s
/-- `EI` (R369). -/
def execEi (s : State) : Out := enableInterrupts s
/-- `illegal 0xFC` (R371). -/
def execIllegalFC (s : State) : Out := illegalOpcode 0xFC s
/-- `illegal 0xFD` (R371). -/
def execIllegalFD (s : State) : Out := illegalOpcode 0xFD s

end Sys2Proof.Machine
end

