-- ==== Sys2Proof/Machine/Dispatch.lean ====
section
/-! DEFINITION. `Execute(row)` (R159): one arm per row of the opcode table, each a call of its meaning. The
state is the one after the instruction's own bytes have been fetched. -/

namespace Sys2Proof.Machine

def exec (i : Instr) (s : State) : Host.Outcome State Fault Refusal :=
  match i with
  | .nop => Sys2Proof.Machine.execNop s
  | .ldBcNn nn => Sys2Proof.Machine.execLdBcNn nn s
  | .ldIndBcA => Sys2Proof.Machine.execLdIndBcA s
  | .incBc => Sys2Proof.Machine.execIncBc s
  | .incB => Sys2Proof.Machine.execIncB s
  | .decB => Sys2Proof.Machine.execDecB s
  | .ldBN n => Sys2Proof.Machine.execLdBN n s
  | .rlca => Sys2Proof.Machine.execRlca s
  | .ldIndNnSp nn => Sys2Proof.Machine.execLdIndNnSp nn s
  | .addHlBc => Sys2Proof.Machine.execAddHlBc s
  | .ldAIndBc => Sys2Proof.Machine.execLdAIndBc s
  | .decBc => Sys2Proof.Machine.execDecBc s
  | .incC => Sys2Proof.Machine.execIncC s
  | .decC => Sys2Proof.Machine.execDecC s
  | .ldCN n => Sys2Proof.Machine.execLdCN n s
  | .rrca => Sys2Proof.Machine.execRrca s
  | .stop => Sys2Proof.Machine.execStop s
  | .ldDeNn nn => Sys2Proof.Machine.execLdDeNn nn s
  | .ldIndDeA => Sys2Proof.Machine.execLdIndDeA s
  | .incDe => Sys2Proof.Machine.execIncDe s
  | .incD => Sys2Proof.Machine.execIncD s
  | .decD => Sys2Proof.Machine.execDecD s
  | .ldDN n => Sys2Proof.Machine.execLdDN n s
  | .rla => Sys2Proof.Machine.execRla s
  | .jrE e => Sys2Proof.Machine.execJrE e s
  | .addHlDe => Sys2Proof.Machine.execAddHlDe s
  | .ldAIndDe => Sys2Proof.Machine.execLdAIndDe s
  | .decDe => Sys2Proof.Machine.execDecDe s
  | .incE => Sys2Proof.Machine.execIncE s
  | .decE => Sys2Proof.Machine.execDecE s
  | .ldEN n => Sys2Proof.Machine.execLdEN n s
  | .rra => Sys2Proof.Machine.execRra s
  | .jrNzE e => Sys2Proof.Machine.execJrNzE e s
  | .ldHlNn nn => Sys2Proof.Machine.execLdHlNn nn s
  | .ldIndHlIncA => Sys2Proof.Machine.execLdIndHlIncA s
  | .incHl => Sys2Proof.Machine.execIncHl s
  | .incH => Sys2Proof.Machine.execIncH s
  | .decH => Sys2Proof.Machine.execDecH s
  | .ldHN n => Sys2Proof.Machine.execLdHN n s
  | .daa => Sys2Proof.Machine.execDaa s
  | .jrZE e => Sys2Proof.Machine.execJrZE e s
  | .addHlHl => Sys2Proof.Machine.execAddHlHl s
  | .ldAIndHlInc => Sys2Proof.Machine.execLdAIndHlInc s
  | .decHl => Sys2Proof.Machine.execDecHl s
  | .incL => Sys2Proof.Machine.execIncL s
  | .decL => Sys2Proof.Machine.execDecL s
  | .ldLN n => Sys2Proof.Machine.execLdLN n s
  | .cpl => Sys2Proof.Machine.execCpl s
  | .jrNcE e => Sys2Proof.Machine.execJrNcE e s
  | .ldSpNn nn => Sys2Proof.Machine.execLdSpNn nn s
  | .ldIndHlDecA => Sys2Proof.Machine.execLdIndHlDecA s
  | .incSp => Sys2Proof.Machine.execIncSp s
  | .incIndHl => Sys2Proof.Machine.execIncIndHl s
  | .decIndHl => Sys2Proof.Machine.execDecIndHl s
  | .ldIndHlN n => Sys2Proof.Machine.execLdIndHlN n s
  | .scf => Sys2Proof.Machine.execScf s
  | .jrCE e => Sys2Proof.Machine.execJrCE e s
  | .addHlSp => Sys2Proof.Machine.execAddHlSp s
  | .ldAIndHlDec => Sys2Proof.Machine.execLdAIndHlDec s
  | .decSp => Sys2Proof.Machine.execDecSp s
  | .incA => Sys2Proof.Machine.execIncA s
  | .decA => Sys2Proof.Machine.execDecA s
  | .ldAN n => Sys2Proof.Machine.execLdAN n s
  | .ccf => Sys2Proof.Machine.execCcf s
  | .ldBB => Sys2Proof.Machine.execLdBB s
  | .ldBC => Sys2Proof.Machine.execLdBC s
  | .ldBD => Sys2Proof.Machine.execLdBD s
  | .ldBE => Sys2Proof.Machine.execLdBE s
  | .ldBH => Sys2Proof.Machine.execLdBH s
  | .ldBL => Sys2Proof.Machine.execLdBL s
  | .ldBIndHl => Sys2Proof.Machine.execLdBIndHl s
  | .ldBA => Sys2Proof.Machine.execLdBA s
  | .ldCB => Sys2Proof.Machine.execLdCB s
  | .ldCC => Sys2Proof.Machine.execLdCC s
  | .ldCD => Sys2Proof.Machine.execLdCD s
  | .ldCE => Sys2Proof.Machine.execLdCE s
  | .ldCH => Sys2Proof.Machine.execLdCH s
  | .ldCL => Sys2Proof.Machine.execLdCL s
  | .ldCIndHl => Sys2Proof.Machine.execLdCIndHl s
  | .ldCA => Sys2Proof.Machine.execLdCA s
  | .ldDB => Sys2Proof.Machine.execLdDB s
  | .ldDC => Sys2Proof.Machine.execLdDC s
  | .ldDD => Sys2Proof.Machine.execLdDD s
  | .ldDE => Sys2Proof.Machine.execLdDE s
  | .ldDH => Sys2Proof.Machine.execLdDH s
  | .ldDL => Sys2Proof.Machine.execLdDL s
  | .ldDIndHl => Sys2Proof.Machine.execLdDIndHl s
  | .ldDA => Sys2Proof.Machine.execLdDA s
  | .ldEB => Sys2Proof.Machine.execLdEB s
  | .ldEC => Sys2Proof.Machine.execLdEC s
  | .ldED => Sys2Proof.Machine.execLdED s
  | .ldEE => Sys2Proof.Machine.execLdEE s
  | .ldEH => Sys2Proof.Machine.execLdEH s
  | .ldEL => Sys2Proof.Machine.execLdEL s
  | .ldEIndHl => Sys2Proof.Machine.execLdEIndHl s
  | .ldEA => Sys2Proof.Machine.execLdEA s
  | .ldHB => Sys2Proof.Machine.execLdHB s
  | .ldHC => Sys2Proof.Machine.execLdHC s
  | .ldHD => Sys2Proof.Machine.execLdHD s
  | .ldHE => Sys2Proof.Machine.execLdHE s
  | .ldHH => Sys2Proof.Machine.execLdHH s
  | .ldHL => Sys2Proof.Machine.execLdHL s
  | .ldHIndHl => Sys2Proof.Machine.execLdHIndHl s
  | .ldHA => Sys2Proof.Machine.execLdHA s
  | .ldLB => Sys2Proof.Machine.execLdLB s
  | .ldLC => Sys2Proof.Machine.execLdLC s
  | .ldLD => Sys2Proof.Machine.execLdLD s
  | .ldLE => Sys2Proof.Machine.execLdLE s
  | .ldLH => Sys2Proof.Machine.execLdLH s
  | .ldLL => Sys2Proof.Machine.execLdLL s
  | .ldLIndHl => Sys2Proof.Machine.execLdLIndHl s
  | .ldLA => Sys2Proof.Machine.execLdLA s
  | .ldIndHlB => Sys2Proof.Machine.execLdIndHlB s
  | .ldIndHlC => Sys2Proof.Machine.execLdIndHlC s
  | .ldIndHlD => Sys2Proof.Machine.execLdIndHlD s
  | .ldIndHlE => Sys2Proof.Machine.execLdIndHlE s
  | .ldIndHlH => Sys2Proof.Machine.execLdIndHlH s
  | .ldIndHlL => Sys2Proof.Machine.execLdIndHlL s
  | .halt => Sys2Proof.Machine.execHalt s
  | .ldIndHlA => Sys2Proof.Machine.execLdIndHlA s
  | .ldAB => Sys2Proof.Machine.execLdAB s
  | .ldAC => Sys2Proof.Machine.execLdAC s
  | .ldAD => Sys2Proof.Machine.execLdAD s
  | .ldAE => Sys2Proof.Machine.execLdAE s
  | .ldAH => Sys2Proof.Machine.execLdAH s
  | .ldAL => Sys2Proof.Machine.execLdAL s
  | .ldAIndHl => Sys2Proof.Machine.execLdAIndHl s
  | .ldAA => Sys2Proof.Machine.execLdAA s
  | .addAB => Sys2Proof.Machine.execAddAB s
  | .addAC => Sys2Proof.Machine.execAddAC s
  | .addAD => Sys2Proof.Machine.execAddAD s
  | .addAE => Sys2Proof.Machine.execAddAE s
  | .addAH => Sys2Proof.Machine.execAddAH s
  | .addAL => Sys2Proof.Machine.execAddAL s
  | .addAIndHl => Sys2Proof.Machine.execAddAIndHl s
  | .addAA => Sys2Proof.Machine.execAddAA s
  | .adcAB => Sys2Proof.Machine.execAdcAB s
  | .adcAC => Sys2Proof.Machine.execAdcAC s
  | .adcAD => Sys2Proof.Machine.execAdcAD s
  | .adcAE => Sys2Proof.Machine.execAdcAE s
  | .adcAH => Sys2Proof.Machine.execAdcAH s
  | .adcAL => Sys2Proof.Machine.execAdcAL s
  | .adcAIndHl => Sys2Proof.Machine.execAdcAIndHl s
  | .adcAA => Sys2Proof.Machine.execAdcAA s
  | .subB => Sys2Proof.Machine.execSubB s
  | .subC => Sys2Proof.Machine.execSubC s
  | .subD => Sys2Proof.Machine.execSubD s
  | .subE => Sys2Proof.Machine.execSubE s
  | .subH => Sys2Proof.Machine.execSubH s
  | .subL => Sys2Proof.Machine.execSubL s
  | .subIndHl => Sys2Proof.Machine.execSubIndHl s
  | .subA => Sys2Proof.Machine.execSubA s
  | .sbcAB => Sys2Proof.Machine.execSbcAB s
  | .sbcAC => Sys2Proof.Machine.execSbcAC s
  | .sbcAD => Sys2Proof.Machine.execSbcAD s
  | .sbcAE => Sys2Proof.Machine.execSbcAE s
  | .sbcAH => Sys2Proof.Machine.execSbcAH s
  | .sbcAL => Sys2Proof.Machine.execSbcAL s
  | .sbcAIndHl => Sys2Proof.Machine.execSbcAIndHl s
  | .sbcAA => Sys2Proof.Machine.execSbcAA s
  | .andB => Sys2Proof.Machine.execAndB s
  | .andC => Sys2Proof.Machine.execAndC s
  | .andD => Sys2Proof.Machine.execAndD s
  | .andE => Sys2Proof.Machine.execAndE s
  | .andH => Sys2Proof.Machine.execAndH s
  | .andL => Sys2Proof.Machine.execAndL s
  | .andIndHl => Sys2Proof.Machine.execAndIndHl s
  | .andA => Sys2Proof.Machine.execAndA s
  | .xorB => Sys2Proof.Machine.execXorB s
  | .xorC => Sys2Proof.Machine.execXorC s
  | .xorD => Sys2Proof.Machine.execXorD s
  | .xorE => Sys2Proof.Machine.execXorE s
  | .xorH => Sys2Proof.Machine.execXorH s
  | .xorL => Sys2Proof.Machine.execXorL s
  | .xorIndHl => Sys2Proof.Machine.execXorIndHl s
  | .xorA => Sys2Proof.Machine.execXorA s
  | .orB => Sys2Proof.Machine.execOrB s
  | .orC => Sys2Proof.Machine.execOrC s
  | .orD => Sys2Proof.Machine.execOrD s
  | .orE => Sys2Proof.Machine.execOrE s
  | .orH => Sys2Proof.Machine.execOrH s
  | .orL => Sys2Proof.Machine.execOrL s
  | .orIndHl => Sys2Proof.Machine.execOrIndHl s
  | .orA => Sys2Proof.Machine.execOrA s
  | .cpB => Sys2Proof.Machine.execCpB s
  | .cpC => Sys2Proof.Machine.execCpC s
  | .cpD => Sys2Proof.Machine.execCpD s
  | .cpE => Sys2Proof.Machine.execCpE s
  | .cpH => Sys2Proof.Machine.execCpH s
  | .cpL => Sys2Proof.Machine.execCpL s
  | .cpIndHl => Sys2Proof.Machine.execCpIndHl s
  | .cpA => Sys2Proof.Machine.execCpA s
  | .retNz => Sys2Proof.Machine.execRetNz s
  | .popBc => Sys2Proof.Machine.execPopBc s
  | .jpNzNn nn => Sys2Proof.Machine.execJpNzNn nn s
  | .jpNn nn => Sys2Proof.Machine.execJpNn nn s
  | .callNzNn nn => Sys2Proof.Machine.execCallNzNn nn s
  | .pushBc => Sys2Proof.Machine.execPushBc s
  | .addAN n => Sys2Proof.Machine.execAddAN n s
  | .rst00 => Sys2Proof.Machine.execRst00 s
  | .retZ => Sys2Proof.Machine.execRetZ s
  | .ret => Sys2Proof.Machine.execRet s
  | .jpZNn nn => Sys2Proof.Machine.execJpZNn nn s
  | .cbPrefix => Sys2Proof.Machine.execCbPrefix s
  | .callZNn nn => Sys2Proof.Machine.execCallZNn nn s
  | .callNn nn => Sys2Proof.Machine.execCallNn nn s
  | .adcAN n => Sys2Proof.Machine.execAdcAN n s
  | .rst08 => Sys2Proof.Machine.execRst08 s
  | .retNc => Sys2Proof.Machine.execRetNc s
  | .popDe => Sys2Proof.Machine.execPopDe s
  | .jpNcNn nn => Sys2Proof.Machine.execJpNcNn nn s
  | .illegalD3 => Sys2Proof.Machine.execIllegalD3 s
  | .callNcNn nn => Sys2Proof.Machine.execCallNcNn nn s
  | .pushDe => Sys2Proof.Machine.execPushDe s
  | .subN n => Sys2Proof.Machine.execSubN n s
  | .rst10 => Sys2Proof.Machine.execRst10 s
  | .retC => Sys2Proof.Machine.execRetC s
  | .reti => Sys2Proof.Machine.execReti s
  | .jpCNn nn => Sys2Proof.Machine.execJpCNn nn s
  | .illegalDB => Sys2Proof.Machine.execIllegalDB s
  | .callCNn nn => Sys2Proof.Machine.execCallCNn nn s
  | .illegalDD => Sys2Proof.Machine.execIllegalDD s
  | .sbcAN n => Sys2Proof.Machine.execSbcAN n s
  | .rst18 => Sys2Proof.Machine.execRst18 s
  | .ldhIndNA n => Sys2Proof.Machine.execLdhIndNA n s
  | .popHl => Sys2Proof.Machine.execPopHl s
  | .ldhIndCA => Sys2Proof.Machine.execLdhIndCA s
  | .illegalE3 => Sys2Proof.Machine.execIllegalE3 s
  | .illegalE4 => Sys2Proof.Machine.execIllegalE4 s
  | .pushHl => Sys2Proof.Machine.execPushHl s
  | .andN n => Sys2Proof.Machine.execAndN n s
  | .rst20 => Sys2Proof.Machine.execRst20 s
  | .addSpE e => Sys2Proof.Machine.execAddSpE e s
  | .jpHl => Sys2Proof.Machine.execJpHl s
  | .ldIndNnA nn => Sys2Proof.Machine.execLdIndNnA nn s
  | .illegalEB => Sys2Proof.Machine.execIllegalEB s
  | .illegalEC => Sys2Proof.Machine.execIllegalEC s
  | .illegalED => Sys2Proof.Machine.execIllegalED s
  | .xorN n => Sys2Proof.Machine.execXorN n s
  | .rst28 => Sys2Proof.Machine.execRst28 s
  | .ldhAIndN n => Sys2Proof.Machine.execLdhAIndN n s
  | .popAf => Sys2Proof.Machine.execPopAf s
  | .ldhAIndC => Sys2Proof.Machine.execLdhAIndC s
  | .di => Sys2Proof.Machine.execDi s
  | .illegalF4 => Sys2Proof.Machine.execIllegalF4 s
  | .pushAf => Sys2Proof.Machine.execPushAf s
  | .orN n => Sys2Proof.Machine.execOrN n s
  | .rst30 => Sys2Proof.Machine.execRst30 s
  | .ldHlSpE e => Sys2Proof.Machine.execLdHlSpE e s
  | .ldSpHl => Sys2Proof.Machine.execLdSpHl s
  | .ldAIndNn nn => Sys2Proof.Machine.execLdAIndNn nn s
  | .ei => Sys2Proof.Machine.execEi s
  | .illegalFC => Sys2Proof.Machine.execIllegalFC s
  | .illegalFD => Sys2Proof.Machine.execIllegalFD s
  | .cpN n => Sys2Proof.Machine.execCpN n s
  | .rst38 => Sys2Proof.Machine.execRst38 s
  | .rlcB => Sys2Proof.Machine.execRlcB s
  | .rlcC => Sys2Proof.Machine.execRlcC s
  | .rlcD => Sys2Proof.Machine.execRlcD s
  | .rlcE => Sys2Proof.Machine.execRlcE s
  | .rlcH => Sys2Proof.Machine.execRlcH s
  | .rlcL => Sys2Proof.Machine.execRlcL s
  | .rlcIndHl => Sys2Proof.Machine.execRlcIndHl s
  | .rlcA => Sys2Proof.Machine.execRlcA s
  | .rrcB => Sys2Proof.Machine.execRrcB s
  | .rrcC => Sys2Proof.Machine.execRrcC s
  | .rrcD => Sys2Proof.Machine.execRrcD s
  | .rrcE => Sys2Proof.Machine.execRrcE s
  | .rrcH => Sys2Proof.Machine.execRrcH s
  | .rrcL => Sys2Proof.Machine.execRrcL s
  | .rrcIndHl => Sys2Proof.Machine.execRrcIndHl s
  | .rrcA => Sys2Proof.Machine.execRrcA s
  | .rlB => Sys2Proof.Machine.execRlB s
  | .rlC => Sys2Proof.Machine.execRlC s
  | .rlD => Sys2Proof.Machine.execRlD s
  | .rlE => Sys2Proof.Machine.execRlE s
  | .rlH => Sys2Proof.Machine.execRlH s
  | .rlL => Sys2Proof.Machine.execRlL s
  | .rlIndHl => Sys2Proof.Machine.execRlIndHl s
  | .rlA => Sys2Proof.Machine.execRlA s
  | .rrB => Sys2Proof.Machine.execRrB s
  | .rrC => Sys2Proof.Machine.execRrC s
  | .rrD => Sys2Proof.Machine.execRrD s
  | .rrE => Sys2Proof.Machine.execRrE s
  | .rrH => Sys2Proof.Machine.execRrH s
  | .rrL => Sys2Proof.Machine.execRrL s
  | .rrIndHl => Sys2Proof.Machine.execRrIndHl s
  | .rrA => Sys2Proof.Machine.execRrA s
  | .slaB => Sys2Proof.Machine.execSlaB s
  | .slaC => Sys2Proof.Machine.execSlaC s
  | .slaD => Sys2Proof.Machine.execSlaD s
  | .slaE => Sys2Proof.Machine.execSlaE s
  | .slaH => Sys2Proof.Machine.execSlaH s
  | .slaL => Sys2Proof.Machine.execSlaL s
  | .slaIndHl => Sys2Proof.Machine.execSlaIndHl s
  | .slaA => Sys2Proof.Machine.execSlaA s
  | .sraB => Sys2Proof.Machine.execSraB s
  | .sraC => Sys2Proof.Machine.execSraC s
  | .sraD => Sys2Proof.Machine.execSraD s
  | .sraE => Sys2Proof.Machine.execSraE s
  | .sraH => Sys2Proof.Machine.execSraH s
  | .sraL => Sys2Proof.Machine.execSraL s
  | .sraIndHl => Sys2Proof.Machine.execSraIndHl s
  | .sraA => Sys2Proof.Machine.execSraA s
  | .swapB => Sys2Proof.Machine.execSwapB s
  | .swapC => Sys2Proof.Machine.execSwapC s
  | .swapD => Sys2Proof.Machine.execSwapD s
  | .swapE => Sys2Proof.Machine.execSwapE s
  | .swapH => Sys2Proof.Machine.execSwapH s
  | .swapL => Sys2Proof.Machine.execSwapL s
  | .swapIndHl => Sys2Proof.Machine.execSwapIndHl s
  | .swapA => Sys2Proof.Machine.execSwapA s
  | .srlB => Sys2Proof.Machine.execSrlB s
  | .srlC => Sys2Proof.Machine.execSrlC s
  | .srlD => Sys2Proof.Machine.execSrlD s
  | .srlE => Sys2Proof.Machine.execSrlE s
  | .srlH => Sys2Proof.Machine.execSrlH s
  | .srlL => Sys2Proof.Machine.execSrlL s
  | .srlIndHl => Sys2Proof.Machine.execSrlIndHl s
  | .srlA => Sys2Proof.Machine.execSrlA s
  | .bit0B => Sys2Proof.Machine.execBit0B s
  | .bit0C => Sys2Proof.Machine.execBit0C s
  | .bit0D => Sys2Proof.Machine.execBit0D s
  | .bit0E => Sys2Proof.Machine.execBit0E s
  | .bit0H => Sys2Proof.Machine.execBit0H s
  | .bit0L => Sys2Proof.Machine.execBit0L s
  | .bit0IndHl => Sys2Proof.Machine.execBit0IndHl s
  | .bit0A => Sys2Proof.Machine.execBit0A s
  | .bit1B => Sys2Proof.Machine.execBit1B s
  | .bit1C => Sys2Proof.Machine.execBit1C s
  | .bit1D => Sys2Proof.Machine.execBit1D s
  | .bit1E => Sys2Proof.Machine.execBit1E s
  | .bit1H => Sys2Proof.Machine.execBit1H s
  | .bit1L => Sys2Proof.Machine.execBit1L s
  | .bit1IndHl => Sys2Proof.Machine.execBit1IndHl s
  | .bit1A => Sys2Proof.Machine.execBit1A s
  | .bit2B => Sys2Proof.Machine.execBit2B s
  | .bit2C => Sys2Proof.Machine.execBit2C s
  | .bit2D => Sys2Proof.Machine.execBit2D s
  | .bit2E => Sys2Proof.Machine.execBit2E s
  | .bit2H => Sys2Proof.Machine.execBit2H s
  | .bit2L => Sys2Proof.Machine.execBit2L s
  | .bit2IndHl => Sys2Proof.Machine.execBit2IndHl s
  | .bit2A => Sys2Proof.Machine.execBit2A s
  | .bit3B => Sys2Proof.Machine.execBit3B s
  | .bit3C => Sys2Proof.Machine.execBit3C s
  | .bit3D => Sys2Proof.Machine.execBit3D s
  | .bit3E => Sys2Proof.Machine.execBit3E s
  | .bit3H => Sys2Proof.Machine.execBit3H s
  | .bit3L => Sys2Proof.Machine.execBit3L s
  | .bit3IndHl => Sys2Proof.Machine.execBit3IndHl s
  | .bit3A => Sys2Proof.Machine.execBit3A s
  | .bit4B => Sys2Proof.Machine.execBit4B s
  | .bit4C => Sys2Proof.Machine.execBit4C s
  | .bit4D => Sys2Proof.Machine.execBit4D s
  | .bit4E => Sys2Proof.Machine.execBit4E s
  | .bit4H => Sys2Proof.Machine.execBit4H s
  | .bit4L => Sys2Proof.Machine.execBit4L s
  | .bit4IndHl => Sys2Proof.Machine.execBit4IndHl s
  | .bit4A => Sys2Proof.Machine.execBit4A s
  | .bit5B => Sys2Proof.Machine.execBit5B s
  | .bit5C => Sys2Proof.Machine.execBit5C s
  | .bit5D => Sys2Proof.Machine.execBit5D s
  | .bit5E => Sys2Proof.Machine.execBit5E s
  | .bit5H => Sys2Proof.Machine.execBit5H s
  | .bit5L => Sys2Proof.Machine.execBit5L s
  | .bit5IndHl => Sys2Proof.Machine.execBit5IndHl s
  | .bit5A => Sys2Proof.Machine.execBit5A s
  | .bit6B => Sys2Proof.Machine.execBit6B s
  | .bit6C => Sys2Proof.Machine.execBit6C s
  | .bit6D => Sys2Proof.Machine.execBit6D s
  | .bit6E => Sys2Proof.Machine.execBit6E s
  | .bit6H => Sys2Proof.Machine.execBit6H s
  | .bit6L => Sys2Proof.Machine.execBit6L s
  | .bit6IndHl => Sys2Proof.Machine.execBit6IndHl s
  | .bit6A => Sys2Proof.Machine.execBit6A s
  | .bit7B => Sys2Proof.Machine.execBit7B s
  | .bit7C => Sys2Proof.Machine.execBit7C s
  | .bit7D => Sys2Proof.Machine.execBit7D s
  | .bit7E => Sys2Proof.Machine.execBit7E s
  | .bit7H => Sys2Proof.Machine.execBit7H s
  | .bit7L => Sys2Proof.Machine.execBit7L s
  | .bit7IndHl => Sys2Proof.Machine.execBit7IndHl s
  | .bit7A => Sys2Proof.Machine.execBit7A s
  | .res0B => Sys2Proof.Machine.execRes0B s
  | .res0C => Sys2Proof.Machine.execRes0C s
  | .res0D => Sys2Proof.Machine.execRes0D s
  | .res0E => Sys2Proof.Machine.execRes0E s
  | .res0H => Sys2Proof.Machine.execRes0H s
  | .res0L => Sys2Proof.Machine.execRes0L s
  | .res0IndHl => Sys2Proof.Machine.execRes0IndHl s
  | .res0A => Sys2Proof.Machine.execRes0A s
  | .res1B => Sys2Proof.Machine.execRes1B s
  | .res1C => Sys2Proof.Machine.execRes1C s
  | .res1D => Sys2Proof.Machine.execRes1D s
  | .res1E => Sys2Proof.Machine.execRes1E s
  | .res1H => Sys2Proof.Machine.execRes1H s
  | .res1L => Sys2Proof.Machine.execRes1L s
  | .res1IndHl => Sys2Proof.Machine.execRes1IndHl s
  | .res1A => Sys2Proof.Machine.execRes1A s
  | .res2B => Sys2Proof.Machine.execRes2B s
  | .res2C => Sys2Proof.Machine.execRes2C s
  | .res2D => Sys2Proof.Machine.execRes2D s
  | .res2E => Sys2Proof.Machine.execRes2E s
  | .res2H => Sys2Proof.Machine.execRes2H s
  | .res2L => Sys2Proof.Machine.execRes2L s
  | .res2IndHl => Sys2Proof.Machine.execRes2IndHl s
  | .res2A => Sys2Proof.Machine.execRes2A s
  | .res3B => Sys2Proof.Machine.execRes3B s
  | .res3C => Sys2Proof.Machine.execRes3C s
  | .res3D => Sys2Proof.Machine.execRes3D s
  | .res3E => Sys2Proof.Machine.execRes3E s
  | .res3H => Sys2Proof.Machine.execRes3H s
  | .res3L => Sys2Proof.Machine.execRes3L s
  | .res3IndHl => Sys2Proof.Machine.execRes3IndHl s
  | .res3A => Sys2Proof.Machine.execRes3A s
  | .res4B => Sys2Proof.Machine.execRes4B s
  | .res4C => Sys2Proof.Machine.execRes4C s
  | .res4D => Sys2Proof.Machine.execRes4D s
  | .res4E => Sys2Proof.Machine.execRes4E s
  | .res4H => Sys2Proof.Machine.execRes4H s
  | .res4L => Sys2Proof.Machine.execRes4L s
  | .res4IndHl => Sys2Proof.Machine.execRes4IndHl s
  | .res4A => Sys2Proof.Machine.execRes4A s
  | .res5B => Sys2Proof.Machine.execRes5B s
  | .res5C => Sys2Proof.Machine.execRes5C s
  | .res5D => Sys2Proof.Machine.execRes5D s
  | .res5E => Sys2Proof.Machine.execRes5E s
  | .res5H => Sys2Proof.Machine.execRes5H s
  | .res5L => Sys2Proof.Machine.execRes5L s
  | .res5IndHl => Sys2Proof.Machine.execRes5IndHl s
  | .res5A => Sys2Proof.Machine.execRes5A s
  | .res6B => Sys2Proof.Machine.execRes6B s
  | .res6C => Sys2Proof.Machine.execRes6C s
  | .res6D => Sys2Proof.Machine.execRes6D s
  | .res6E => Sys2Proof.Machine.execRes6E s
  | .res6H => Sys2Proof.Machine.execRes6H s
  | .res6L => Sys2Proof.Machine.execRes6L s
  | .res6IndHl => Sys2Proof.Machine.execRes6IndHl s
  | .res6A => Sys2Proof.Machine.execRes6A s
  | .res7B => Sys2Proof.Machine.execRes7B s
  | .res7C => Sys2Proof.Machine.execRes7C s
  | .res7D => Sys2Proof.Machine.execRes7D s
  | .res7E => Sys2Proof.Machine.execRes7E s
  | .res7H => Sys2Proof.Machine.execRes7H s
  | .res7L => Sys2Proof.Machine.execRes7L s
  | .res7IndHl => Sys2Proof.Machine.execRes7IndHl s
  | .res7A => Sys2Proof.Machine.execRes7A s
  | .set0B => Sys2Proof.Machine.execSet0B s
  | .set0C => Sys2Proof.Machine.execSet0C s
  | .set0D => Sys2Proof.Machine.execSet0D s
  | .set0E => Sys2Proof.Machine.execSet0E s
  | .set0H => Sys2Proof.Machine.execSet0H s
  | .set0L => Sys2Proof.Machine.execSet0L s
  | .set0IndHl => Sys2Proof.Machine.execSet0IndHl s
  | .set0A => Sys2Proof.Machine.execSet0A s
  | .set1B => Sys2Proof.Machine.execSet1B s
  | .set1C => Sys2Proof.Machine.execSet1C s
  | .set1D => Sys2Proof.Machine.execSet1D s
  | .set1E => Sys2Proof.Machine.execSet1E s
  | .set1H => Sys2Proof.Machine.execSet1H s
  | .set1L => Sys2Proof.Machine.execSet1L s
  | .set1IndHl => Sys2Proof.Machine.execSet1IndHl s
  | .set1A => Sys2Proof.Machine.execSet1A s
  | .set2B => Sys2Proof.Machine.execSet2B s
  | .set2C => Sys2Proof.Machine.execSet2C s
  | .set2D => Sys2Proof.Machine.execSet2D s
  | .set2E => Sys2Proof.Machine.execSet2E s
  | .set2H => Sys2Proof.Machine.execSet2H s
  | .set2L => Sys2Proof.Machine.execSet2L s
  | .set2IndHl => Sys2Proof.Machine.execSet2IndHl s
  | .set2A => Sys2Proof.Machine.execSet2A s
  | .set3B => Sys2Proof.Machine.execSet3B s
  | .set3C => Sys2Proof.Machine.execSet3C s
  | .set3D => Sys2Proof.Machine.execSet3D s
  | .set3E => Sys2Proof.Machine.execSet3E s
  | .set3H => Sys2Proof.Machine.execSet3H s
  | .set3L => Sys2Proof.Machine.execSet3L s
  | .set3IndHl => Sys2Proof.Machine.execSet3IndHl s
  | .set3A => Sys2Proof.Machine.execSet3A s
  | .set4B => Sys2Proof.Machine.execSet4B s
  | .set4C => Sys2Proof.Machine.execSet4C s
  | .set4D => Sys2Proof.Machine.execSet4D s
  | .set4E => Sys2Proof.Machine.execSet4E s
  | .set4H => Sys2Proof.Machine.execSet4H s
  | .set4L => Sys2Proof.Machine.execSet4L s
  | .set4IndHl => Sys2Proof.Machine.execSet4IndHl s
  | .set4A => Sys2Proof.Machine.execSet4A s
  | .set5B => Sys2Proof.Machine.execSet5B s
  | .set5C => Sys2Proof.Machine.execSet5C s
  | .set5D => Sys2Proof.Machine.execSet5D s
  | .set5E => Sys2Proof.Machine.execSet5E s
  | .set5H => Sys2Proof.Machine.execSet5H s
  | .set5L => Sys2Proof.Machine.execSet5L s
  | .set5IndHl => Sys2Proof.Machine.execSet5IndHl s
  | .set5A => Sys2Proof.Machine.execSet5A s
  | .set6B => Sys2Proof.Machine.execSet6B s
  | .set6C => Sys2Proof.Machine.execSet6C s
  | .set6D => Sys2Proof.Machine.execSet6D s
  | .set6E => Sys2Proof.Machine.execSet6E s
  | .set6H => Sys2Proof.Machine.execSet6H s
  | .set6L => Sys2Proof.Machine.execSet6L s
  | .set6IndHl => Sys2Proof.Machine.execSet6IndHl s
  | .set6A => Sys2Proof.Machine.execSet6A s
  | .set7B => Sys2Proof.Machine.execSet7B s
  | .set7C => Sys2Proof.Machine.execSet7C s
  | .set7D => Sys2Proof.Machine.execSet7D s
  | .set7E => Sys2Proof.Machine.execSet7E s
  | .set7H => Sys2Proof.Machine.execSet7H s
  | .set7L => Sys2Proof.Machine.execSet7L s
  | .set7IndHl => Sys2Proof.Machine.execSet7IndHl s
  | .set7A => Sys2Proof.Machine.execSet7A s

end Sys2Proof.Machine
end

