-- ==== Sys2Proof/Machine/Fetch.lean ====
section
/-! DEFINITION. The fetch of one instruction: the EI delay, the opcode, the CB opcode and the operand bytes,
each byte in its own machine cycle (40_engine.md R154 to R158). -/

namespace Sys2Proof.Machine

/-- The EI delay resolves before the fetch (R154); the opcode's address is kept for an `IllegalOpcode`
fault (R158). -/
def beginInstruction (s : State) : State :=
  { s with ime := s.ime || s.imePending, imePending := false, opPc := s.pc }

/-- HALTED_BUG lasts for one opcode fetch (R156). -/
def endHaltBug (bug : Bool) (s : State) : State :=
  if bug then { s with runState := .normal } else s

/-- Fetch the operand bytes an opcode's row asks for (R120, R157). STOP's second byte is not read
(R367). -/
def fetchOperands (entry : OpEntry) (s : State) : Res Instr :=
  match entry with
  | .op i => .ok i s
  | .opN f => (fetchByte s).bind fun n s1 => .ok (f n) s1
  | .opE f => (fetchByte s).bind fun e s1 => .ok (f e) s1
  | .opNn f => (fetchWord s).bind fun nn s1 => .ok (f nn) s1
  | .cb => (fetchByte s).bind fun c s1 => .ok (cbEntry c) s1
  | .stop => .ok .stop s

/-- Fetch and decode one instruction (R150, `StepInstruction` up to `Execute`). -/
def fetchInstr (bug : Bool) (s : State) : Res Instr :=
  (fetchOpcode bug (beginInstruction s)).bind fun op s1 =>
    fetchOperands (opEntry op) (endHaltBug bug s1)

end Sys2Proof.Machine
end

