-- ==== Sys2Proof/Machine/Engine.lean ====
section
/-! DEFINITION. `tick()` (40_engine.md R150 to R163) over the execution of one instruction, which Step.lean
supplies. -/

namespace Sys2Proof.Machine

/-- `StepInstruction(bug)` (R150). -/
def stepInstruction (run : Instr → State → Out) (bug : Bool) (s : State) : Out :=
  match fetchInstr bug s with
  | .ok i s1 => run i s1
  | .fault k s1 => raise k s1

/-- The end-of-tick dispatch check (R160). -/
def endOfTick (o : Out) : Out :=
  match o with
  | .next s => if dispatchable s then (dispatch s).out else .next s
  | .fault r => .fault r
  | .refused r => .refused r

/-- The CPU leaves HALTED or STOPPED (R161, R162). -/
def wake (s : State) : State := { s with runState := .normal }

/-- What a tick does in each run state (R150, R161, R162), before the end-of-tick check. -/
def tickBody (run : Instr → State → Out) (s : State) : Out :=
  match s.runState with
  | .normal => stepInstruction run false s
  | .haltedBug => stepInstruction run true s
  | .halted => if pending s then stepInstruction run false (wake s) else (internal s).out
  | .stopped =>
    if s.cfg.stopWake = .pending ∧ pending s = true then stepInstruction run false (wake s)
    else (internal s).out

/-- `tick()` (R150): a faulted machine has no step (R15); the start-of-tick check dispatches and does
nothing else (R151). -/
def tick (run : Instr → State → Out) (s : State) : Out :=
  match s.fault with
  | some _ => .refused .faultedMachine
  | none => if dispatchable s then (dispatch s).out else endOfTick (tickBody run s)

end Sys2Proof.Machine
end

