-- ==== Sys2Proof/Machine/Step.lean ====
section
/-! DEFINITION. One step of the machine is one `tick()` (R150). -/

namespace Sys2Proof.Machine

/-- `tick()` with the instructions of the opcode table. -/
def step (s : State) : Host.Outcome State Fault Refusal := tick exec s

/-- `s` with an opcode-table word stored at PC, and with what would keep the next step from fetching it taken
away: a fault, a wait or one-shot state, a dispatch that would come first, a DMA transfer (log 10). -/
def State.withFetchWord (s : State) (nbits w : Nat) : State :=
  let store (m : List Host.Cell) (p : Word × Byte) : List Host.Cell := Mem.write m p.1.toNat p.2
  { s with
    mem := ([s.pc, s.pc + 1, s.pc + 2].zip (tableBytes nbits w)).foldl store s.mem
    fault := none
    runState := .normal
    ime := s.ime && !pending s
    dmaActive := false
    dmaDelay := 0 }

end Sys2Proof.Machine
end

