-- ==== Sys2Proof/Machine/HostPort.lean ====
section
/-! DEFINITION. What the host can do between two ticks (R8): construct the machine from attached devices,
apply the post-boot registers, take and apply a View (20_memory.md R71, R72, 70_reset_and_hazards.md R420,
R421, R425). A host's interrupt request is `requestInterrupt` (R385). -/

namespace Sys2Proof.Machine

/-- The lowest address two ranges share. -/
def sharedAddr (r q : AddrRange) : Option Nat :=
  let lo := max r.first.toNat q.first.toNat
  if lo ≤ min r.last.toNat q.last.toNat then some lo else none

/-- The lowest address of `r` that is owned already. -/
def lowestClaimed (r : AddrRange) (owned : List AddrRange) : Option Nat :=
  match owned with
  | [] => none
  | q :: rest =>
    match sharedAddr r q, lowestClaimed r rest with
    | some x, some y => some (min x y)
    | some x, none => some x
    | none, o => o

/-- The first address of a device's ranges, in its order, that is owned already. -/
def claimedTwice (ranges owned : List AddrRange) : Option Nat :=
  match ranges with
  | [] => none
  | r :: rest =>
    match lowestClaimed r owned with
    | some x => some x
    | none => claimedTwice rest owned

/-- Attach the devices in order (R71, R72): the first address claimed twice, if there is one. -/
def attachAll (devices : List Device) (owned : List AddrRange) : Option Nat :=
  match devices with
  | [] => none
  | d :: rest =>
    match claimedTwice d.ranges owned with
    | some x => some x
    | none => attachAll rest (owned ++ d.ranges)

/-- What the CPU owns is attached first (R75). -/
def cpuRanges : List AddrRange := [⟨ifAddr, ifAddr⟩, ⟨dmaAddr, dmaAddr⟩, ⟨ieAddr, ieAddr⟩]

/-- Construction (R420) from the model arguments of R10, the devices and `EXT_CALLBACK` among them: the devices are
attached, and then the state takes its reset values. An overlap is
a fault and no run starts (R72). -/
def construct (cfg : Config) : Out :=
  match attachAll cfg.devices cpuRanges with
  | some x => .fault (.attachOverlap (BitVec.ofNat 16 x))
  | none => .next (State.init cfg)

/-- `setPostBootRomRegisters()` (R421): the ten registers and nothing else. -/
def setPostBootRomRegisters (s : State) : State :=
  { s with
    a := 0x01, flags := Flags.ofByte 0xB0
    b := 0x00, c := 0x13
    d := 0x00, e := 0xD8
    h := 0x01, l := 0x4D
    sp := 0xFFFE, pc := 0x0100 }

/-- A View (R425). F and IF are whole bytes here, so that what `applyView` masks can be said. -/
structure View where
  a : Byte
  f : Byte
  b : Byte
  c : Byte
  d : Byte
  e : Byte
  h : Byte
  l : Byte
  sp : Word
  pc : Word
  ime : Bool
  imePending : Bool
  ie : Byte
  if5 : Byte
  runState : RunState
  dmaReg : Byte
  dmaSrc : Byte
  dmaDelay : Nat
  dmaIndex : Nat
  dmaActive : Bool
deriving DecidableEq, Repr

/-- `View()` (R425). -/
def State.view (s : State) : View :=
  { a := s.a, f := s.flags.toByte, b := s.b, c := s.c, d := s.d, e := s.e, h := s.h, l := s.l
    sp := s.sp, pc := s.pc, ime := s.ime, imePending := s.imePending, ie := s.ie
    if5 := s.if5.setWidth 8, runState := s.runState, dmaReg := s.dmaReg, dmaSrc := s.dmaSrc
    dmaDelay := s.dmaDelay, dmaIndex := s.dmaIndex, dmaActive := s.dmaActive }

/-- The domains of the View's fields (R425). -/
def View.inDomain (v : View) : Bool := decide (v.dmaDelay ≤ 4) && decide (v.dmaIndex ≤ 160)

/-- `applyView(v)` (R425): every field from `v`, F and IF masked; a View outside the domains is not
accepted. The fault, the devices' contents and the platform are not in a View. -/
def State.applyView (v : View) (s : State) : Option State :=
  if v.inDomain then
    some { s with
      a := v.a, flags := Flags.ofByte v.f, b := v.b, c := v.c, d := v.d, e := v.e, h := v.h, l := v.l
      sp := v.sp, pc := v.pc, ime := v.ime, imePending := v.imePending, ie := v.ie
      if5 := v.if5.setWidth 5, runState := v.runState, dmaReg := v.dmaReg, dmaSrc := v.dmaSrc
      dmaDelay := v.dmaDelay, dmaIndex := v.dmaIndex, dmaActive := v.dmaActive }
  else none

end Sys2Proof.Machine
end

