-- ==== Sys2Proof/Safety.lean ====
section
/-! DEFINITION. The words the claims use: what bus cycles cannot touch, a quiet bus, a platform with no hole,
the invariant of a running machine, and what each instruction may write and how long it takes. -/

namespace Sys2Proof.Machine

/-- What the DMA engine and the callback "do not see": the CPU's own part of the state (R167), with the
platform and the fault. -/
structure SameCpu (s t : State) : Prop where
  a : t.a = s.a
  b : t.b = s.b
  c : t.c = s.c
  d : t.d = s.d
  e : t.e = s.e
  h : t.h = s.h
  l : t.l = s.l
  flags : t.flags = s.flags
  sp : t.sp = s.sp
  pc : t.pc = s.pc
  ime : t.ime = s.ime
  imePending : t.imePending = s.imePending
  runState : t.runState = s.runState
  fault : t.fault = s.fault
  opPc : t.opPc = s.opPc
  cfg : t.cfg = s.cfg

/-- `s` with the CPU's own part of `c`: what the DMA engine and the callback "do not see" (R167). -/
def State.withCpu (s c : State) : State :=
  { s with
    a := c.a, b := c.b, c := c.c, d := c.d, e := c.e, h := c.h, l := c.l, flags := c.flags, sp := c.sp, pc := c.pc
    ime := c.ime, imePending := c.imePending, runState := c.runState, opPc := c.opPc }

/-- What `r` answers, with `g` applied to the state it leaves. -/
def Res.onState {α : Type} (g : State → State) (r : Res α) : Res α :=
  match r with
  | .ok v s => .ok v (g s)
  | .fault k s => .fault k (g s)

/-- From `s` to `t` the callback has been called `n` times (R152, R164, log 23): its first calls are used up one by
one, and past them a callback counts its calls. A call of the no-op callback leaves no trace. -/
structure Called (n : Nat) (s t : State) : Prop where
  ext : t.ext = s.ext.drop n
  calls : t.extCalls = s.extCalls + if s.cfg.callback.after = .noop then 0 else n - s.ext.length
  cfg : t.cfg = s.cfg

/-- No address has two owners among the sets of ranges `owners` (R72, R74). -/
def NoSharedAddress (owners : List (List AddrRange)) : Prop :=
  owners.Pairwise fun r q => ∀ a : Word, ¬(inRanges r a = true ∧ inRanges q a = true)

/-- `a` is "the first address claimed twice" (R380): the devices of `before` attach, the next device `d` does not,
and `a` is the lowest address that the CPU or one of them owns already in the first range of `d` with one (that order
is log 14). -/
def FirstClaimedTwice (cfg : Config) (a : Word) : Prop :=
  ∃ (before after : List Device) (d : Device) (earlier later : List AddrRange) (r : AddrRange),
    cfg.devices = before ++ d :: after ∧ d.ranges = earlier ++ r :: later ∧
    NoSharedAddress (cpuRanges :: before.map Device.ranges) ∧
    let owned := cpuRanges ++ before.flatMap Device.ranges
    (∀ b : Word, ¬(inRanges earlier b = true ∧ inRanges owned b = true)) ∧
    rangeHas r a = true ∧ inRanges owned a = true ∧
    ∀ b : Word, rangeHas r b = true → inRanges owned b = true → a.toNat ≤ b.toNat

/-- No DMA transfer is armed or copying and the callback does nothing: only the CPU reaches memory. -/
structure Quiet (s : State) : Prop where
  idle : s.dmaActive = false
  unarmed : s.dmaDelay = 0
  noCallback : s.ext = []
  noop : s.cfg.callback.after = .noop

/-- Every address has an owner, so that no access can fault (R73). -/
def FullyMapped (cfg : Config) : Prop := ∀ a : Word, (deviceMap cfg a).isSome = true

/-- A running machine: memory in its canonical form, the DMA state in its domains (R45), no fault (R51). -/
structure State.Inv (s : State) : Prop where
  memory : Memory.wf s.mem = true
  delay : s.dmaDelay ≤ 4
  index : s.dmaIndex ≤ 160
  copying : s.dmaActive = true → s.dmaIndex < 160
  running : s.fault = none

/-- The byte the RAM devices hold at an address: the model's read of one byte, with no effect. -/
def ramByte (a : Word) (s : State) : Byte := Mem.read s.mem a.toNat

end Sys2Proof.Machine

namespace Sys2Proof

open Machine

/-- The 8-bit registers an instruction may write, beside F (R32). -/
def Shape.writesReg (sh : Shape) (r : Reg8) : Bool :=
  match sh with
  | .aluReg op _ | .aluHl op | .aluImm op _ => r == .a && op != .cp
  | .daa | .cpl | .rotAcc _ => r == .a
  | .incReg r' | .decReg r' | .rotReg _ r' | .resReg _ r' | .setReg _ r' => r == r'
  | .ldReg r' _ | .ldRegImm r' _ | .ldRegHl r' => r == r'
  | .addHl _ | .ldHlSp _ | .ldHlIncA | .ldHlDecA => r == .h || r == .l
  | .incPair p | .decPair p | .ldPair p _ =>
    match p with
    | .bc => r == .b || r == .c
    | .de => r == .d || r == .e
    | .hl => r == .h || r == .l
    | .sp => false
  | .pop q =>
    match q with
    | .bc => r == .b || r == .c
    | .de => r == .d || r == .e
    | .hl => r == .h || r == .l
    | .af => r == .a
  | .ldABc | .ldADe | .ldANn _ | .ldhAN _ | .ldhAC => r == .a
  | .ldAHlInc | .ldAHlDec => r == .a || r == .h || r == .l
  | .incHl | .decHl | .scf | .ccf | .addSp _ | .rotHl _ | .bitReg _ _ | .bitHl _ | .resHl _ | .setHl _
  | .jp _ | .jpIf _ _ | .jpHl | .jr _ | .jrIf _ _ | .call _ | .callIf _ _ | .ret | .retIf _ | .reti | .rst _
  | .push _ | .ldSpHl | .ldNnSp _ | .ldHlReg _ | .ldHlImm _ | .ldBcA | .ldDeA | .ldNnA _ | .ldhNA _ | .ldhCA
  | .nop | .halt | .stop | .di | .ei | .cbPrefix | .illegal _ => false

/-- The instructions that write a flag (R35). -/
def Shape.writesFlags (sh : Shape) : Bool :=
  match sh with
  | .aluReg _ _ | .aluHl _ | .aluImm _ _ | .incReg _ | .incHl | .decReg _ | .decHl | .daa | .cpl | .scf | .ccf
  | .addHl _ | .addSp _ | .ldHlSp _ | .rotAcc _ | .rotReg _ _ | .rotHl _ | .bitReg _ _ | .bitHl _ => true
  | .pop q => q == .af
  | .incPair _ | .decPair _ | .resReg _ _ | .resHl _ | .setReg _ _ | .setHl _
  | .jp _ | .jpIf _ _ | .jpHl | .jr _ | .jrIf _ _ | .call _ | .callIf _ _ | .ret | .retIf _ | .reti | .rst _
  | .push _ | .ldSpHl | .ldNnSp _ | .ldPair _ _
  | .ldReg _ _ | .ldRegImm _ _ | .ldRegHl _ | .ldHlReg _ | .ldHlImm _ | .ldABc | .ldADe | .ldBcA | .ldDeA
  | .ldAHlInc | .ldAHlDec | .ldHlIncA | .ldHlDecA | .ldANn _ | .ldNnA _ | .ldhAN _ | .ldhNA _ | .ldhAC | .ldhCA
  | .nop | .halt | .stop | .di | .ei | .cbPrefix | .illegal _ => false

/-- What an instruction makes of SP (R36). -/
def Shape.spAfter (sh : Shape) (s : State) : Word :=
  match sh with
  | .push _ | .call _ | .rst _ => s.sp - 2
  | .callIf cc _ => if cond cc s.flags then s.sp - 2 else s.sp
  | .pop _ | .ret | .reti => s.sp + 2
  | .retIf cc => if cond cc s.flags then s.sp + 2 else s.sp
  | .incPair p => if p = .sp then s.sp + 1 else s.sp
  | .decPair p => if p = .sp then s.sp - 1 else s.sp
  | .ldPair p nn => if p = .sp then nn else s.sp
  | .ldSpHl => s.hl
  | .addSp e => s.sp + e.signExtend 16
  | .aluReg _ _ | .aluHl _ | .aluImm _ _ | .incReg _ | .incHl | .decReg _ | .decHl | .daa | .cpl | .scf | .ccf
  | .addHl _ | .ldHlSp _ | .rotAcc _ | .rotReg _ _ | .rotHl _ | .bitReg _ _ | .bitHl _ | .resReg _ _ | .resHl _
  | .setReg _ _ | .setHl _ | .jp _ | .jpIf _ _ | .jpHl | .jr _ | .jrIf _ _ | .ldNnSp _
  | .ldReg _ _ | .ldRegImm _ _ | .ldRegHl _ | .ldHlReg _ | .ldHlImm _ | .ldABc | .ldADe | .ldBcA | .ldDeA
  | .ldAHlInc | .ldAHlDec | .ldHlIncA | .ldHlDecA | .ldANn _ | .ldNnA _ | .ldhAN _ | .ldhNA _ | .ldhAC | .ldhCA
  | .nop | .halt | .stop | .di | .ei | .cbPrefix | .illegal _ => s.sp

/-- The bytes an instruction stores to, in the order of its write cycles. -/
def Shape.storeAddrs (sh : Shape) (s : State) : List Word :=
  match sh with
  | .incHl | .decHl | .rotHl _ | .resHl _ | .setHl _ | .ldHlReg _ | .ldHlImm _ | .ldHlIncA | .ldHlDecA => [s.hl]
  | .ldBcA => [s.bc]
  | .ldDeA => [s.de]
  | .ldNnA nn => [nn]
  | .ldhNA n => [highPage n]
  | .ldhCA => [highPage s.c]
  | .ldNnSp nn => [nn, nn + 1]
  | .push _ | .call _ | .rst _ => [s.sp - 1, s.sp - 2]
  | .callIf cc _ => if cond cc s.flags then [s.sp - 1, s.sp - 2] else []
  | .aluReg _ _ | .aluHl _ | .aluImm _ _ | .incReg _ | .decReg _ | .daa | .cpl | .scf | .ccf
  | .addHl _ | .incPair _ | .decPair _ | .addSp _ | .ldHlSp _ | .rotAcc _ | .rotReg _ _ | .bitReg _ _ | .bitHl _
  | .resReg _ _ | .setReg _ _ | .jp _ | .jpIf _ _ | .jpHl | .jr _ | .jrIf _ _ | .ret | .retIf _ | .reti
  | .pop _ | .ldSpHl | .ldPair _ _ | .ldReg _ _ | .ldRegImm _ _ | .ldRegHl _ | .ldABc | .ldADe
  | .ldAHlInc | .ldAHlDec | .ldANn _ | .ldhAN _ | .ldhAC | .nop | .halt | .stop | .di | .ei | .cbPrefix
  | .illegal _ => []

/-- The bytes the fetch of an instruction reads: its encoding, less STOP's ignored byte (R120, R367). -/
def Instr.fetchedBytes (i : Instr) : Nat :=
  match i.shape with
  | .stop => 1
  | _ => (encode i).length

/-- The machine cycles of an instruction, fetch included, on the path the flags select (R431). -/
def Shape.cycles (sh : Shape) (cfg : Config) (f : Flags) : Nat :=
  match sh with
  | .aluReg _ _ | .incReg _ | .decReg _ | .daa | .cpl | .scf | .ccf | .rotAcc _ | .jpHl | .ldReg _ _ => 1
  | .nop | .halt | .stop | .di | .ei | .illegal _ => 1
  | .aluHl _ | .aluImm _ _ | .addHl _ | .incPair _ | .decPair _ | .ldSpHl | .ldRegImm _ _ | .ldRegHl _ => 2
  | .rotReg _ _ | .bitReg _ _ | .resReg _ _ | .setReg _ _ => 2
  | .ldHlReg _ | .ldABc | .ldADe | .ldBcA | .ldDeA | .ldAHlInc | .ldAHlDec | .ldHlIncA | .ldHlDecA => 2
  | .ldhAC | .ldhCA => 2
  | .incHl | .decHl | .bitHl _ | .jr _ | .pop _ | .ldPair _ _ | .ldHlImm _ | .ldhAN _ | .ldhNA _ => 3
  | .addSp _ | .rotHl _ | .resHl _ | .setHl _ | .jp _ | .ret | .reti | .rst _ | .push _ => 4
  | .ldANn _ | .ldNnA _ => 4
  | .ldNnSp _ => 5
  | .call _ => 6
  | .ldHlSp _ => 2 + ldhlInternalCycles cfg
  | .jpIf cc _ => if cond cc f then 4 else 3
  | .jrIf cc _ => if cond cc f then 3 else 2
  | .callIf cc _ => if cond cc f then 6 else 3
  | .retIf cc => if cond cc f then 5 else 2
  | .cbPrefix => 1

end Sys2Proof

namespace Sys2Proof.Machine

/-! ### The fields of an opcode (R121 to R123) -/

def regCode (r : Reg8) : BitVec 3 :=
  match r with
  | .b => 0 | .c => 1 | .d => 2 | .e => 3 | .h => 4 | .l => 5 | .a => 7

def pairCode (p : RegDd) : BitVec 2 :=
  match p with
  | .bc => 0 | .de => 1 | .hl => 2 | .sp => 3

def stackCode (q : RegQq) : BitVec 2 :=
  match q with
  | .bc => 0 | .de => 1 | .hl => 2 | .af => 3

def condCode (cc : Cond) : BitVec 2 :=
  match cc with
  | .nz => 0 | .z => 1 | .nc => 2 | .c => 3

def aluCode (op : AluOp) : BitVec 3 :=
  match op with
  | .add => 0 | .adc => 1 | .sub => 2 | .sbc => 3 | .and => 4 | .xor => 5 | .or => 6 | .cp => 7

def rotCode (op : RotOp) : BitVec 3 :=
  match op with
  | .rlc => 0 | .rrc => 1 | .rl => 2 | .rr => 3 | .sla => 4 | .sra => 5 | .swap => 6 | .srl => 7

/-- The number of a bit, or of a restart, as its field. -/
def bitCode (b : Fin 8) : BitVec 3 := BitVec.ofFin b

/-! ### The results the rules give, said over words and numbers -/

/-- `t` with A := a + v + cin and the flags of an 8-bit add (R190). -/
def State.withSum (a v : Byte) (cin : Bool) (t : State) : State :=
  { t with
    a := a + v + (BitVec.ofBool cin).setWidth 8
    flags := { z := decide ((a.toNat + v.toNat + cin.toNat) % 256 = 0), n := false
               h := decide (a.toNat % 16 + v.toNat % 16 + cin.toNat ≥ 16)
               c := decide (a.toNat + v.toNat + cin.toNat ≥ 256) } }

/-- The flags of an 8-bit subtract a - v - cin (R191). -/
def differenceFlags (a v : Byte) (cin : Bool) : Flags :=
  { z := decide (a = v + (BitVec.ofBool cin).setWidth 8), n := true
    h := decide (a.toNat % 16 < v.toNat % 16 + cin.toNat)
    c := decide (a.toNat < v.toNat + cin.toNat) }

/-- `t` with A := a - v - cin and the flags of an 8-bit subtract (R191). -/
def State.withDifference (a v : Byte) (cin : Bool) (t : State) : State :=
  { t with a := a - v - (BitVec.ofBool cin).setWidth 8, flags := differenceFlags a v cin }

/-- What a rotate or shift makes of a byte (R255). -/
def rotated (op : RotOp) (v : Byte) (c : Bool) : Byte :=
  match op with
  | .rlc => v.rotateLeft 1
  | .rrc => v.rotateRight 1
  | .rl => (v <<< 1) ||| (BitVec.ofBool c).setWidth 8
  | .rr => (v >>> 1) ||| ((BitVec.ofBool c).setWidth 8 <<< 7)
  | .sla => v <<< 1
  | .sra => v.sshiftRight 1
  | .swap => v.rotateLeft 4
  | .srl => v >>> 1

/-- The bit a rotate or shift moves into C (R255, R257). -/
def rotatedOut (op : RotOp) (v : Byte) : Bool :=
  match op with
  | .rlc | .rl | .sla => v.getLsbD 7
  | .rrc | .rr | .sra | .srl => v.getLsbD 0
  | .swap => false

/-- `w` is `v` with bit `b` set to `x` and the other bits kept (R292, R294). -/
def BitMade (b : Fin 8) (x : Bool) (v w : Byte) : Prop :=
  ∀ k : Nat, k < 8 → w.getLsbD k = if k = b.val then x else v.getLsbD k

/-! ### The shapes of an outcome -/

/-- `o` is the outcome of one read at `a` in `s`: the read's value and the state after its cycle make the next
state, and a fault of the read is the fault of the instruction (R83, R382). -/
def ReadsThen (a : Word) (s : State) (o : Out) (f : Byte → State → State) : Prop :=
  (∀ v t, memRead a s = .ok v t → o = .next (f v t)) ∧
    ∀ k t, memRead a s = .fault k t → o = .fault (Fault.of k t)

/-- `o` is the outcome of one write of `v` at `a` in `s` (R83, R382). -/
def WritesThen (a : Word) (v : Byte) (s : State) (o : Out) (f : State → State) : Prop :=
  (∀ t, memWrite a v s = .ok () t → o = .next (f t)) ∧
    ∀ k t, memWrite a v s = .fault k t → o = .fault (Fault.of k t)

/-- `o` is the outcome of a read at `a` in `s` and then a write at `a` of what `g` makes of the byte, each in its
own machine cycle (R92, R218). -/
def ModifiesThen (a : Word) (s : State) (o : Out) (g : Byte → Byte) (f : Byte → State → State) : Prop :=
  (∀ v t, memRead a s = .ok v t → WritesThen a (g v) t o (f v)) ∧
    ∀ k t, memRead a s = .fault k t → o = .fault (Fault.of k t)

/-- `o` is the outcome of `n` internal machine cycles in `s` (R153). -/
def WaitsThen (n : Nat) (s : State) (o : Out) (f : State → State) : Prop :=
  (∀ t, internals n s = .ok () t → o = .next (f t)) ∧
    ∀ k t, internals n s = .fault k t → o = .fault (Fault.of k t)

/-- `o` is the outcome of an internal cycle in `s`, then a push of `w` (R320): the high byte at SP - 1 and the low
byte at SP - 2, with SP the address of the byte being written. -/
def PushesThen (w : Word) (s : State) (o : Out) (f : State → State) : Prop :=
  (∀ t, internal s = .ok () t →
    (∀ u, memWrite (s.sp - 1) (hiByte w) { t with sp := s.sp - 1 } = .ok () u →
      WritesThen (s.sp - 2) (loByte w) { u with sp := s.sp - 2 } o f) ∧
    ∀ k u, memWrite (s.sp - 1) (hiByte w) { t with sp := s.sp - 1 } = .fault k u → o = .fault (Fault.of k u)) ∧
    ∀ k t, internal s = .fault k t → o = .fault (Fault.of k t)

/-- `o` is the outcome of a pop in `s` (R321): the low byte at SP, then the high byte at SP + 1. -/
def PopsThen (s : State) (o : Out) (f : Word → State → Out → Prop) : Prop :=
  (∀ lo t, memRead s.sp s = .ok lo t →
    (∀ hi u, memRead (s.sp + 1) { t with sp := s.sp + 1 } = .ok hi u →
      f (hi ++ lo) { u with sp := s.sp + 2 } o) ∧
    ∀ k u, memRead (s.sp + 1) { t with sp := s.sp + 1 } = .fault k u → o = .fault (Fault.of k u)) ∧
    ∀ k t, memRead s.sp s = .fault k t → o = .fault (Fault.of k t)

end Sys2Proof.Machine
end

