-- ==== Sys2Proof/Certificates/Slice0/Obligations.lean ====
section
/-! DEFINITION. The statements about the model. A statement over `i.shape` speaks of every row of the opcode
table with that shape (Syntax.lean). A meaning starts from the state after the instruction's own bytes have been
fetched. -/

open Sys2Proof Sys2Proof.Machine

/-! ### Decoding -/

/-- An encoded well-formed instruction decodes to itself and to the bytes after it, with every operand at every
value (the opcode maps are marked as general knowledge, log 24). -/
def Obligations.DecodeOfEncode : Prop :=
  ∀ (i : Instr) (rest : List Byte), i.wellFormed = true → decode (encode i ++ rest) = .ok (i, rest)

/-- What decodes is the encoding of the instruction, but for STOP's second byte, which is ignored (decision D10) and
may be missing at the end; only the single byte 0xCB decodes to the bare prefix (decision D25). That a STOP without its
second byte and a lone 0xCB decode at all are the decoder's own choices (log 18 and log 17). -/
def Obligations.DecodedBytesAreTheEncoding : Prop :=
  ∀ (bytes rest : List Byte) (i : Instr), decode bytes = .ok (i, rest) →
    (i ≠ .stop → bytes = encode i ++ rest) ∧
      (i = .stop → (∃ ignored, bytes = 0x10 :: ignored :: rest) ∨ bytes = [0x10] ∧ rest = []) ∧
      (i.wellFormed = false → bytes = [0xCB])

/-- Three bytes always decode; fewer fail only where the instruction goes on past them (the opcode maps are marked
as general knowledge, log 24; a lone STOP and a lone 0xCB decode, log 18 and log 17). -/
def Obligations.DecoderIsTotal : Prop :=
  (∀ (b0 b1 b2 : Byte) (rest : List Byte), ∃ i left, decode (b0 :: b1 :: b2 :: rest) = .ok (i, left)) ∧
    decode [] = .error .noBytes ∧
    ∀ (op : Byte) (bytes : List Byte) (e : DecodeError), decode (op :: bytes) = .error e →
      e = .truncated op ∧ ∀ more i left, decode (op :: bytes ++ more) = .ok (i, left) → left.length < more.length

/-- Words of every family, written out from the maps of R126 and R127 (marked as general knowledge, log 24). -/
def Obligations.KnownWordsDecode : Prop :=
  decode [0b10000000] = .ok (.addAB, []) ∧ decode [0b11101110, 0x0F] = .ok (.xorN 0x0F, []) ∧
    decode [0b00110100] = .ok (.incIndHl, []) ∧ decode [0b00101001] = .ok (.addHlHl, []) ∧
    decode [0b00011111] = .ok (.rra, []) ∧ decode [0xCB, 0b00110111] = .ok (.swapA, []) ∧
    decode [0xCB, 0b01111100] = .ok (.bit7H, []) ∧ decode [0xCB, 0b10000110] = .ok (.res0IndHl, []) ∧
    decode [0xCB, 0b11111111] = .ok (.set7A, []) ∧ decode [0b11000010, 0x34, 0x12] = .ok (.jpNzNn 0x1234, []) ∧
    decode [0b00111000, 0x80] = .ok (.jrCE 0x80, []) ∧ decode [0b11110101] = .ok (.pushAf, []) ∧
    decode [0b01110000] = .ok (.ldIndHlB, []) ∧ decode [0b11100000, 0x46] = .ok (.ldhIndNA 0x46, []) ∧
    decode [0b01110110] = .ok (.halt, []) ∧ decode [0b11010011] = .ok (.illegalD3, [])

/-! ### State, construction and the host's entry points -/

/-- The values at construction in both boot modes. The registers are the document's; IME, the EI delay, IE, IF,
the run state and the DMA state are decision D15 of the spec. The callback given at construction starts with its first
call (the model's own fields, log 7). -/
def Obligations.ConstructionValues : Prop :=
  ∀ cfg : Config,
    let s := State.init cfg
    (cfg.bootMode = .postBoot → s.a = 0x01 ∧ s.flags.toByte = 0xB0 ∧ s.bc = 0x0013 ∧ s.de = 0x00D8 ∧
      s.hl = 0x014D ∧ s.sp = 0xFFFE ∧ s.pc = 0x0100 ∧ s.if5 = 0x01) ∧
    (cfg.bootMode = .bootRom → s.a = 0x00 ∧ s.flags.toByte = 0x00 ∧ s.bc = 0x0000 ∧ s.de = 0x0000 ∧
      s.hl = 0x0000 ∧ s.sp = 0x0000 ∧ s.pc = 0x0000 ∧ s.if5 = 0x00) ∧
    s.ime = false ∧ s.imePending = false ∧ s.ie = 0x00 ∧ s.runState = .normal ∧ s.dmaReg = cfg.dmaReset ∧
      s.dmaDelay = 0 ∧ s.dmaIndex = 0 ∧ s.dmaSrc = 0x00 ∧ s.dmaActive = false ∧ s.fault = none ∧ s.cfg = cfg ∧
      s.ext = cfg.callback.first ∧ s.extCalls = 0

/-- Construction faults exactly where some address has two claimants among the CPU and the devices, and then records
the first address claimed twice; else it starts from the values above (decision D14; the order of the claims is the
model's choice, log 14). -/
def Obligations.OverlapIsRejected : Prop :=
  ∀ cfg : Config,
    (NoSharedAddress (cpuRanges :: cfg.devices.map Device.ranges) → construct cfg = .next (State.init cfg)) ∧
    (¬NoSharedAddress (cpuRanges :: cfg.devices.map Device.ranges) →
      ∃ a, construct cfg = .fault (.attachOverlap a) ∧ FirstClaimedTwice cfg a)

/-- The four pair views: the first register is the high byte, a pair is a view of its registers, and a write
reads back, for AF with the low nibble of F cleared. -/
def Obligations.PairViewsRoundTrip : Prop :=
  ∀ (s : State) (v : Word),
    s.af = s.a ++ s.flags.toByte ∧ s.bc = s.b ++ s.c ∧ s.de = s.d ++ s.e ∧ s.hl = s.h ++ s.l ∧
    (s.setBc v).bc = v ∧ (s.setDe v).de = v ∧ (s.setHl v).hl = v ∧ (s.setAf v).af = v &&& 0xFFF0 ∧
    (∀ b : Byte, (s.setReg .b b).bc = b ++ s.c) ∧
    (s.setBc v).reg .b = v.extractLsb' 8 8 ∧ (s.setBc v).reg .c = v.extractLsb' 0 8

/-- The View round trip (decision D23): a restored View is what was saved, restoring one's own View changes
nothing, F and IF are masked, and a View outside its domains is not accepted. -/
def Obligations.ViewRoundTrip : Prop :=
  (∀ s : State, s.dmaDelay ≤ 4 → s.dmaIndex ≤ 160 → s.applyView s.view = some s) ∧
    (∀ (s t : State) (v : View), s.applyView v = some t →
      t.view = { v with f := v.f &&& 0xF0, if5 := v.if5 &&& 0x1F } ∧
        t.fault = s.fault ∧ t.mem = s.mem ∧ t.ext = s.ext ∧ t.extCalls = s.extCalls ∧
        t.periph = s.periph ∧ t.cfg = s.cfg) ∧
    ∀ (s : State) (v : View), (s.applyView v).isSome = true ↔ v.dmaDelay ≤ 4 ∧ v.dmaIndex ≤ 160

/-- The post-boot entry point (decision D37): ten registers, and nothing else. -/
def Obligations.PostBootEntryPoint : Prop :=
  ∀ s : State,
    let t := setPostBootRomRegisters s
    t.a = 0x01 ∧ t.flags.toByte = 0xB0 ∧ t.bc = 0x0013 ∧ t.de = 0x00D8 ∧ t.hl = 0x014D ∧ t.sp = 0xFFFE ∧
      t.pc = 0x0100 ∧
      { t with a := s.a, flags := s.flags, b := s.b, c := s.c, d := s.d, e := s.e, h := s.h, l := s.l
               sp := s.sp, pc := s.pc } = s

/-! ### The arithmetic laws -/

/-- The carries of `add8` are the carries out of bits 3 and 7 of the binary sum. -/
def Obligations.AddFlagsAreBitCarries : Prop :=
  ∀ (a b : Byte) (cin : Bool),
    (add8 a b cin).1 = a + b + (BitVec.ofBool cin).setWidth 8 ∧
      (add8 a b cin).2 = { z := (add8 a b cin).1 == 0, n := false
                           h := BitVec.carry 4 a b cin, c := BitVec.carry 8 a b cin }

/-- After a BCD addition or subtraction DAA leaves the BCD result and the decimal carry (decision D31 gives the
exact conditions of DAA). -/
def Obligations.DaaCorrectsDecimalArithmetic : Prop :=
  let bcd := fun n : Nat => BitVec.ofNat 8 (n / 10 % 10 * 16 + n % 10)
  ∀ (x y : Fin 100) (cin : Bool),
    (let r := add8 (bcd x) (bcd y) cin
     let w := daaResult r.1 r.2
     w.1 = bcd (x.val + y.val + cin.toNat) ∧ w.2.c = decide (x.val + y.val + cin.toNat ≥ 100)) ∧
    (let r := sub8 (bcd x) (bcd y) cin
     let w := daaResult r.1 r.2
     w.1 = bcd (100 + x.val - y.val - cin.toNat) ∧ w.2.c = decide (x.val < y.val + cin.toNat))

/-! ### 8-bit arithmetic -/

/-- ADD and ADC: A gets the sum of A, the operand and, for ADC, the old C; H and C are the carries out of bits 3
and 7; Z is set by a zero result, N is 0. The rules with an immediate operand are R195 and R198. The opcode values are
marked as general knowledge (log 24). -/
def Obligations.AddAndAdc : Prop :=
  ∀ (i : Instr) (s : State) (op : AluOp) (cin : Bool), (op = .add ∧ cin = false ∨ op = .adc ∧ cin = s.flags.c) →
    (∀ r, i.shape = .aluReg op r → encode i = [0b10#2 ++ aluCode op ++ regCode r] ∧
      exec i s = .next (s.withSum s.a (s.reg r) cin)) ∧
    (i.shape = .aluHl op → encode i = [0b10#2 ++ aluCode op ++ 0b110#3] ∧
      ReadsThen s.hl s (exec i s) fun v t => t.withSum s.a v cin) ∧
    ∀ n, i.shape = .aluImm op n → encode i = [0b11#2 ++ aluCode op ++ 0b110#3, n] ∧
      exec i s = .next (s.withSum s.a n cin)

/-- SUB and SBC: A gets A less the operand and, for SBC, less the old C; H and C are the borrows; Z is set by a zero
result. The rules with an immediate operand are R201 and R204. That N is 1 the spec marks as general knowledge
(decision D31, log 24). -/
def Obligations.SubAndSbc : Prop :=
  ∀ (i : Instr) (s : State) (op : AluOp) (cin : Bool), (op = .sub ∧ cin = false ∨ op = .sbc ∧ cin = s.flags.c) →
    (∀ r, i.shape = .aluReg op r → encode i = [0b10#2 ++ aluCode op ++ regCode r] ∧
      exec i s = .next (s.withDifference s.a (s.reg r) cin)) ∧
    (i.shape = .aluHl op → encode i = [0b10#2 ++ aluCode op ++ 0b110#3] ∧
      ReadsThen s.hl s (exec i s) fun v t => t.withDifference s.a v cin) ∧
    ∀ n, i.shape = .aluImm op n → encode i = [0b11#2 ++ aluCode op ++ 0b110#3, n] ∧
      exec i s = .next (s.withDifference s.a n cin)

/-- AND, XOR and OR: the bitwise result in A, Z from the result, H set by AND only, C cleared (the spec marks these
flags as general knowledge, and OR's Z as decision D17). -/
def Obligations.AndXorOr : Prop :=
  ∀ (i : Instr) (s : State) (op : AluOp) (g : Byte → Byte → Byte),
    (op = .and ∧ g = (· &&& ·) ∨ op = .xor ∧ g = (· ^^^ ·) ∨ op = .or ∧ g = (· ||| ·)) →
    let made := fun (v : Byte) (t : State) =>
      { t with a := g s.a v
               flags := { z := decide (g s.a v = 0), n := false, h := decide (op = .and), c := false } }
    (∀ r, i.shape = .aluReg op r → encode i = [0b10#2 ++ aluCode op ++ regCode r] ∧
      exec i s = .next (made (s.reg r) s)) ∧
    (i.shape = .aluHl op → encode i = [0b10#2 ++ aluCode op ++ 0b110#3] ∧ ReadsThen s.hl s (exec i s) made) ∧
    ∀ n, i.shape = .aluImm op n → encode i = [0b11#2 ++ aluCode op ++ 0b110#3, n] ∧ exec i s = .next (made n s)

/-- CP writes the flags of SUB and no register (the spec marks its flags as general knowledge). -/
def Obligations.CompareWritesOnlyFlags : Prop :=
  ∀ (i : Instr) (s : State),
    (∀ r, i.shape = .aluReg .cp r → encode i = [0b10111#5 ++ regCode r] ∧
      exec i s = .next { s with flags := differenceFlags s.a (s.reg r) false }) ∧
    (i.shape = .aluHl .cp → encode i = [0xBE] ∧
      ReadsThen s.hl s (exec i s) fun v t => { t with flags := differenceFlags s.a v false }) ∧
    ∀ n, i.shape = .aluImm .cp n → encode i = [0xFE, n] ∧
      exec i s = .next { s with flags := differenceFlags s.a n false }

/-- INC and DEC of a register and of the byte at HL: the result wraps, C is kept, and the memory forms read and
write in two machine cycles (the spec marks all these flags as general knowledge, decision D31, log 24). -/
def Obligations.IncAndDecOfBytes : Prop :=
  ∀ (i : Instr) (s : State),
    let incFlags := fun v : Byte =>
      ({ z := decide (v = 0xFF), n := false, h := decide (v.toNat % 16 = 15), c := s.flags.c } : Flags)
    let decFlags := fun v : Byte =>
      ({ z := decide (v = 0x01), n := true, h := decide (v.toNat % 16 = 0), c := s.flags.c } : Flags)
    (∀ r, i.shape = .incReg r → encode i = [0b00#2 ++ regCode r ++ 0b100#3] ∧
      exec i s = .next { s.setReg r (s.reg r + 1) with flags := incFlags (s.reg r) }) ∧
    (i.shape = .incHl → encode i = [0x34] ∧
      ModifiesThen s.hl s (exec i s) (· + 1) fun v t => { t with flags := incFlags v }) ∧
    (∀ r, i.shape = .decReg r → encode i = [0b00#2 ++ regCode r ++ 0b101#3] ∧
      exec i s = .next { s.setReg r (s.reg r - 1) with flags := decFlags (s.reg r) }) ∧
    (i.shape = .decHl → encode i = [0x35] ∧
      ModifiesThen s.hl s (exec i s) (· - 1) fun v t => { t with flags := decFlags v })

/-- DAA, CPL, SCF and CCF (DAA's exact conditions are decision D31; the flags of the other three the spec marks as
general knowledge). -/
def Obligations.DaaCplScfCcf : Prop :=
  ∀ (i : Instr) (s : State),
    (i.shape = .daa → encode i = [0x27] ∧
      let high := !s.flags.n && s.flags.c || !s.flags.n && decide (s.a.toNat > 0x99)
      let low := !s.flags.n && s.flags.h || !s.flags.n && decide (s.a.toNat % 16 > 9)
      let up : Byte := (if high then 0x60 else 0x00) + if low then 0x06 else 0x00
      let down : Byte := (if s.flags.n && s.flags.c then 0x60 else 0x00) + if s.flags.n && s.flags.h then 0x06 else 0x00
      exec i s = .next { s with
        a := s.a + up - down
        flags := { z := decide (s.a + up - down = 0), n := s.flags.n, h := false, c := s.flags.c || high } }) ∧
    (i.shape = .cpl → encode i = [0x2F] ∧
      exec i s = .next { s with a := s.a ^^^ 0xFF, flags := ⟨s.flags.z, true, true, s.flags.c⟩ }) ∧
    (i.shape = .scf → encode i = [0x37] ∧
      exec i s = .next { s with flags := ⟨s.flags.z, false, false, true⟩ }) ∧
    (i.shape = .ccf → encode i = [0x3F] ∧
      exec i s = .next { s with flags := ⟨s.flags.z, false, false, !s.flags.c⟩ })

/-! ### 16-bit arithmetic -/

/-- ADD HL,rr with the carries out of bits 11 and 15 and Z kept, and INC rr and DEC rr with no flag written, each
with one internal cycle (cycle counts, N and the kept flags are marked as general knowledge, log 24). That the registers are written after the
cycle, so that a fault in it leaves them as they were, is the model's choice (log 26). -/
def Obligations.AddHlAndPairSteps : Prop :=
  ∀ (i : Instr) (s : State) (p : RegDd),
    (i.shape = .addHl p → encode i = [0b00#2 ++ pairCode p ++ 0b1001#4] ∧
      WaitsThen 1 s (exec i s) fun t => { t.setHl (s.hl + s.pair p) with
        flags := { z := s.flags.z, n := false, h := BitVec.carry 12 s.hl (s.pair p) false
                   c := BitVec.carry 16 s.hl (s.pair p) false } }) ∧
    (i.shape = .incPair p → encode i = [0b00#2 ++ pairCode p ++ 0b0011#4] ∧
      WaitsThen 1 s (exec i s) fun t => t.setPair p (s.pair p + 1)) ∧
    (i.shape = .decPair p → encode i = [0b00#2 ++ pairCode p ++ 0b1011#4] ∧
      WaitsThen 1 s (exec i s) fun t => t.setPair p (s.pair p - 1))

/-- ADD SP,e8 and LD HL,SP+e8: the signed sum, with the carries of the unsigned add of e to SP's low byte; SP is
kept by the second. The carries are decision D31, the internal cycles of the second D16. -/
def Obligations.SignedStackAdds : Prop :=
  ∀ (i : Instr) (s : State) (e : Byte),
    let sum := s.sp + e.signExtend 16
    let flags := ({ z := false, n := false, h := BitVec.carry 4 (s.sp.setWidth 8) e false
                    c := BitVec.carry 8 (s.sp.setWidth 8) e false } : Flags)
    (i.shape = .addSp e → encode i = [0xE8, e] ∧
      WaitsThen 2 s (exec i s) fun t => { t with sp := sum, flags := flags }) ∧
    (i.shape = .ldHlSp e → encode i = [0xF8, e] ∧
      (s.cfg.ldhlSpeInternal = .one → WaitsThen 1 s (exec i s) fun t => { t.setHl sum with flags := flags }) ∧
      (s.cfg.ldhlSpeInternal = .two → WaitsThen 2 s (exec i s) fun t => { t.setHl sum with flags := flags }))

/-! ### Rotates, shifts and bits -/

/-- RLCA, RRCA, RLA and RRA clear Z whatever the result; C is the bit moved out (the bit detail of the rows is
marked as general knowledge). -/
def Obligations.AccumulatorRotates : Prop :=
  ∀ (i : Instr) (s : State) (op : RotOp), i.shape = .rotAcc op →
    op ∈ [.rlc, .rrc, .rl, .rr] ∧ encode i = [0b00#2 ++ rotCode op ++ 0b111#3] ∧
      exec i s = .next { s with a := rotated op s.a s.flags.c, flags := ⟨false, false, false, rotatedOut op s.a⟩ }

/-- The eight CB rotates and shifts of a register and of the byte at HL: Z from the result (SWAP's C is decision
D31, the bit detail of the rows general knowledge). -/
def Obligations.CbRotatesAndShifts : Prop :=
  ∀ (i : Instr) (s : State) (op : RotOp),
    let flags := fun v : Byte =>
      ({ z := decide (rotated op v s.flags.c = 0), n := false, h := false, c := rotatedOut op v } : Flags)
    (∀ r, i.shape = .rotReg op r → encode i = [0xCB, 0b00#2 ++ rotCode op ++ regCode r] ∧
      exec i s = .next { s.setReg r (rotated op (s.reg r) s.flags.c) with flags := flags (s.reg r) }) ∧
    (i.shape = .rotHl op → encode i = [0xCB, 0b00#2 ++ rotCode op ++ 0b110#3] ∧
      ModifiesThen s.hl s (exec i s) (rotated op · s.flags.c) fun v t => { t with flags := flags v })

/-- BIT b: Z is the complement of the bit, N = 0, H = 1, C kept; no register and no byte is written (the
opcode values are marked as general knowledge, log 24). -/
def Obligations.BitTests : Prop :=
  ∀ (i : Instr) (s : State) (b : Fin 8),
    (∀ r, i.shape = .bitReg b r → encode i = [0xCB, 0b01#2 ++ bitCode b ++ regCode r] ∧
      exec i s = .next { s with flags := ⟨!(s.reg r).getLsbD b, false, true, s.flags.c⟩ }) ∧
    (i.shape = .bitHl b → encode i = [0xCB, 0b01#2 ++ bitCode b ++ 0b110#3] ∧
      ReadsThen s.hl s (exec i s) fun v t => { t with flags := ⟨!v.getLsbD b, false, true, s.flags.c⟩ })

/-- RES b clears and SET b sets one bit, keeps the other seven, and writes no flag; the memory forms write also
where the bit has its value already (the opcode values are marked as general knowledge, log 24). -/
def Obligations.ResAndSet : Prop :=
  ∀ (i : Instr) (s : State) (b : Fin 8) (x : Bool),
    (∀ r, (if x then i.shape = .setReg b r else i.shape = .resReg b r) →
      encode i = [0xCB, (if x then 0b11#2 else 0b10#2) ++ bitCode b ++ regCode r] ∧
        ∃ w, BitMade b x (s.reg r) w ∧ exec i s = .next (s.setReg r w)) ∧
    ((if x then i.shape = .setHl b else i.shape = .resHl b) →
      encode i = [0xCB, (if x then 0b11#2 else 0b10#2) ++ bitCode b ++ 0b110#3] ∧
        ∃ g : Byte → Byte, (∀ v, BitMade b x v (g v)) ∧ ModifiesThen s.hl s (exec i s) g fun _ t => t)

/-! ### Control transfer -/

/-- JP nn, JP cc,nn and JP HL: one internal cycle on a taken absolute jump, none otherwise; the four conditions look
at Z and C alone (the place of the internal cycle and the encoding of JP HL are marked as general knowledge, log
24). -/
def Obligations.AbsoluteJumps : Prop :=
  ∀ (i : Instr) (s : State),
    (cond .nz s.flags = !s.flags.z ∧ cond .z s.flags = s.flags.z ∧ cond .nc s.flags = !s.flags.c ∧
      cond .c s.flags = s.flags.c) ∧
    (∀ nn, i.shape = .jp nn → encode i = [0xC3, loByte nn, hiByte nn] ∧
      WaitsThen 1 s (exec i s) fun t => { t with pc := nn }) ∧
    (∀ cc nn, i.shape = .jpIf cc nn → encode i = [0b110#3 ++ condCode cc ++ 0b010#3, loByte nn, hiByte nn] ∧
      (cond cc s.flags = true → WaitsThen 1 s (exec i s) fun t => { t with pc := nn }) ∧
      (cond cc s.flags = false → exec i s = .next s)) ∧
    (i.shape = .jpHl → encode i = [0xE9] ∧ exec i s = .next { s with pc := s.h ++ s.l })

/-- JR e and JR cc,e: the signed displacement counts from the address after the instruction (the wrap of PC + e is
decision D3, and the place of the internal cycle is marked as general knowledge, log 24). -/
def Obligations.RelativeJumps : Prop :=
  ∀ (i : Instr) (s : State) (e : Byte),
    let taken := WaitsThen 1 s (exec i s) fun t => { t with pc := BitVec.ofInt 16 (s.pc.toNat + e.toInt) }
    (i.shape = .jr e → encode i = [0x18, e] ∧ taken) ∧
    (∀ cc, i.shape = .jrIf cc e → encode i = [0b001#3 ++ condCode cc ++ 0b000#3, e] ∧
      (cond cc s.flags = true → taken) ∧ (cond cc s.flags = false → exec i s = .next s))

/-- CALL nn, CALL cc,nn and RST t push the address after the instruction and jump; a CALL not taken makes no stack
access (the place of the internal cycle and RST are marked as general knowledge, log 24). -/
def Obligations.CallsAndRestarts : Prop :=
  ∀ (i : Instr) (s : State),
    (∀ nn, i.shape = .call nn → encode i = [0xCD, loByte nn, hiByte nn] ∧
      PushesThen s.pc s (exec i s) fun t => { t with pc := nn }) ∧
    (∀ cc nn, i.shape = .callIf cc nn → encode i = [0b110#3 ++ condCode cc ++ 0b100#3, loByte nn, hiByte nn] ∧
      (cond cc s.flags = true → PushesThen s.pc s (exec i s) fun t => { t with pc := nn }) ∧
      (cond cc s.flags = false → exec i s = .next s)) ∧
    (∀ n, i.shape = .rst n → encode i = [0b11#2 ++ bitCode n ++ 0b111#3] ∧
      PushesThen s.pc s (exec i s) fun t => { t with pc := BitVec.ofNat 16 (8 * n.val) })

/-- RET, RET cc and RETI pop PC and then spend an internal cycle; RET cc spends one before the pop on both paths;
RETI also sets IME at once and clears the EI delay (decision D21). The place of the internal cycles is marked as general
knowledge (log 24). -/
def Obligations.Returns : Prop :=
  ∀ (i : Instr) (s : State),
    (i.shape = .ret → encode i = [0xC9] ∧
      PopsThen s (exec i s) fun v t o => WaitsThen 1 t o fun u => { u with pc := v }) ∧
    (∀ cc, i.shape = .retIf cc → encode i = [0b110#3 ++ condCode cc ++ 0b000#3] ∧
      (cond cc s.flags = true →
        (∀ t, internal s = .ok () t →
          PopsThen t (exec i s) fun v u o => WaitsThen 1 u o fun w => { w with pc := v }) ∧
        ∀ k t, internal s = .fault k t → exec i s = .fault (Fault.of k t)) ∧
      (cond cc s.flags = false → WaitsThen 1 s (exec i s) fun t => t)) ∧
    (i.shape = .reti → encode i = [0xD9] ∧
      PopsThen s (exec i s) fun v t o =>
        WaitsThen 1 t o fun u => { u with pc := v, ime := true, imePending := false })

/-! ### Stack and loads -/

/-- PUSH qq after an internal cycle, POP qq, and POP AF, which clears the low nibble of F (PUSH's internal cycle is
marked as general knowledge, log 24). -/
def Obligations.PushAndPop : Prop :=
  ∀ (i : Instr) (s : State),
    (∀ q, i.shape = .push q → encode i = [0b11#2 ++ stackCode q ++ 0b0101#4] ∧
      PushesThen (s.stackPair q) s (exec i s) fun t => t) ∧
    (∀ q, i.shape = .pop q → encode i = [0b11#2 ++ stackCode q ++ 0b0001#4] ∧
      PopsThen s (exec i s) fun v t o => ∃ u, o = .next u ∧
        u.stackPair q = (if q = .af then v &&& 0xFFF0 else v) ∧
        (match q with
         | .bc => { u with b := t.b, c := t.c } = t
         | .de => { u with d := t.d, e := t.e } = t
         | .hl => { u with h := t.h, l := t.l } = t
         | .af => { u with a := t.a, flags := t.flags } = t))

/-- LD SP,HL; LD (nn),SP, low byte first; and LD dd,nn. LD SP,HL's internal cycle is marked as general knowledge; the
byte order of LD (nn),SP is decision D1 and the wrap of nn + 1 decision D3 (log 24). -/
def Obligations.StackPointerLoads : Prop :=
  ∀ (i : Instr) (s : State),
    (i.shape = .ldSpHl → encode i = [0xF9] ∧ WaitsThen 1 s (exec i s) fun t => { t with sp := s.hl }) ∧
    (∀ nn, i.shape = .ldNnSp nn → encode i = [0x08, loByte nn, hiByte nn] ∧
      (∀ t, memWrite nn (loByte s.sp) s = .ok () t → WritesThen (nn + 1) (hiByte s.sp) t (exec i s) fun u => u) ∧
      ∀ k t, memWrite nn (loByte s.sp) s = .fault k t → exec i s = .fault (Fault.of k t)) ∧
    (∀ p nn, i.shape = .ldPair p nn → encode i = [0b00#2 ++ pairCode p ++ 0b0001#4, loByte nn, hiByte nn] ∧
      exec i s = .next (s.setPair p nn))

/-- LD r,r', LD r,n and LD r,(HL): one register, no flag; the address of the last is HL before the load.
The opcodes and the operand orders are marked as general knowledge (log 24). -/
def Obligations.RegisterLoads : Prop :=
  ∀ (i : Instr) (s : State) (r : Reg8),
    (∀ r', i.shape = .ldReg r r' → encode i = [0b01#2 ++ regCode r ++ regCode r'] ∧
      exec i s = .next (s.setReg r (s.reg r'))) ∧
    (∀ n, i.shape = .ldRegImm r n → encode i = [0b00#2 ++ regCode r ++ 0b110#3, n] ∧
      exec i s = .next (s.setReg r n)) ∧
    (i.shape = .ldRegHl r → encode i = [0b01#2 ++ regCode r ++ 0b110#3] ∧
      ReadsThen s.hl s (exec i s) fun v t => t.setReg r v)

/-- The loads and stores through HL, BC and DE that change no address register (their opcodes and operand orders are
marked as general knowledge, log 24). -/
def Obligations.IndirectLoadsAndStores : Prop :=
  ∀ (i : Instr) (s : State),
    (∀ r, i.shape = .ldHlReg r → encode i = [0b01110#5 ++ regCode r] ∧
      WritesThen s.hl (s.reg r) s (exec i s) fun t => t) ∧
    (∀ n, i.shape = .ldHlImm n → encode i = [0x36, n] ∧ WritesThen s.hl n s (exec i s) fun t => t) ∧
    (i.shape = .ldABc → encode i = [0x0A] ∧ ReadsThen s.bc s (exec i s) fun v t => { t with a := v }) ∧
    (i.shape = .ldADe → encode i = [0x1A] ∧ ReadsThen s.de s (exec i s) fun v t => { t with a := v }) ∧
    (i.shape = .ldBcA → encode i = [0x02] ∧ WritesThen s.bc s.a s (exec i s) fun t => t) ∧
    (i.shape = .ldDeA → encode i = [0x12] ∧ WritesThen s.de s.a s (exec i s) fun t => t)

/-- The loads and stores that step HL after the access: the access is at the old HL, and on a fault HL is not
stepped (the opcodes and operand orders are marked as general knowledge, and the wrap of HL is decision D3, log 24). -/
def Obligations.SteppingLoadsAndStores : Prop :=
  ∀ (i : Instr) (s : State),
    (i.shape = .ldAHlInc → encode i = [0x2A] ∧
      ReadsThen s.hl s (exec i s) fun v t => ({ t with a := v } : State).setHl (s.hl + 1)) ∧
    (i.shape = .ldAHlDec → encode i = [0x3A] ∧
      ReadsThen s.hl s (exec i s) fun v t => ({ t with a := v } : State).setHl (s.hl - 1)) ∧
    (i.shape = .ldHlIncA → encode i = [0x22] ∧ WritesThen s.hl s.a s (exec i s) fun t => t.setHl (s.hl + 1)) ∧
    (i.shape = .ldHlDecA → encode i = [0x32] ∧ WritesThen s.hl s.a s (exec i s) fun t => t.setHl (s.hl - 1))

/-- The loads and stores of A at an absolute address and in the high page (their opcodes and operand orders are
marked as general knowledge, log 24). -/
def Obligations.AbsoluteAndHighPageLoads : Prop :=
  ∀ (i : Instr) (s : State),
    (∀ nn, i.shape = .ldANn nn → encode i = [0xFA, loByte nn, hiByte nn] ∧
      ReadsThen nn s (exec i s) fun v t => { t with a := v }) ∧
    (∀ nn, i.shape = .ldNnA nn → encode i = [0xEA, loByte nn, hiByte nn] ∧
      WritesThen nn s.a s (exec i s) fun t => t) ∧
    (∀ n, i.shape = .ldhAN n → encode i = [0xF0, n] ∧
      ReadsThen (0xFF#8 ++ n) s (exec i s) fun v t => { t with a := v }) ∧
    (∀ n, i.shape = .ldhNA n → encode i = [0xE0, n] ∧
      WritesThen (0xFF#8 ++ n) s.a s (exec i s) fun t => t) ∧
    (i.shape = .ldhAC → encode i = [0xF2] ∧
      ReadsThen (0xFF#8 ++ s.c) s (exec i s) fun v t => { t with a := v }) ∧
    (i.shape = .ldhCA → encode i = [0xE2] ∧ WritesThen (0xFF#8 ++ s.c) s.a s (exec i s) fun t => t)

/-! ### System control -/

/-- HALT waits, or enters the HALT bug where IME is clear and an enabled request is pending. That the test masks IE and
IF to the five sources is decision D5 (R42, log 24): the document writes the condition without the mask. -/
def Obligations.HaltEntersItsState : Prop :=
  ∀ (i : Instr) (s : State), i.shape = .halt → encode i = [0x76] ∧
    (s.ime = true → exec i s = .next { s with runState := .halted }) ∧
    (s.ime = false → s.ie.setWidth 5 &&& s.if5 = 0 → exec i s = .next { s with runState := .halted }) ∧
    (s.ime = false → s.ie.setWidth 5 &&& s.if5 ≠ 0 → exec i s = .next { s with runState := .haltedBug })

/-- NOP, DI, EI and STOP (DI, EI and the EI delay are decision D8; STOP's length, cycles and skipped byte D10). -/
def Obligations.NopDiEiStop : Prop :=
  ∀ (i : Instr) (s : State),
    (i.shape = .nop → encode i = [0x00] ∧ exec i s = .next s) ∧
    (i.shape = .di → encode i = [0xF3] ∧ exec i s = .next { s with ime := false, imePending := false }) ∧
    (i.shape = .ei → encode i = [0xFB] ∧
      (s.ime = false → exec i s = .next { s with imePending := true }) ∧ (s.ime = true → exec i s = .next s)) ∧
    (i.shape = .stop → encode i = [0x10, 0x00] ∧
      exec i s = .next { s with pc := s.pc + 1, runState := .stopped })

/-- The bare prefix fetches the CB opcode and is then the instruction of that row of the CB table; no decoded
instruction is the bare prefix (decision D25). -/
def Obligations.CbPrefixRunsTheCbRow : Prop :=
  (∀ (s t : State) (c : Byte), fetchByte s = .ok c t → exec .cbPrefix s = exec (cbEntry c) t) ∧
    (∀ (s t : State) (k : FaultKind), fetchByte s = .fault k t → exec .cbPrefix s = .fault (Fault.of k t)) ∧
    ∀ (bug : Bool) (s t : State) (i : Instr), fetchInstr bug s = .ok i t → i.wellFormed = true

/-- The eleven illegal opcodes stop the machine, and the fault names the opcode and the address it was fetched from.
The state it leaves is the one after the fetch, whose machine cycle is spent, and no register and no flag is written. The
address is kept in the model's own field `opPc` (log 8, DESIGN CHOICE), and that the fault is fatal is decision D18. -/
def Obligations.IllegalOpcodesStop : Prop :=
  ∀ (i : Instr) (op : Byte), i.shape = .illegal op →
    op ∈ [0xD3, 0xDB, 0xDD, 0xE3, 0xE4, 0xEB, 0xEC, 0xED, 0xF4, 0xFC, 0xFD] ∧ encode i = [op] ∧
      (∀ s : State, exec i s =
        .fault (.illegalOpcode op s.opPc { s with fault := some (.illegalOpcode op s.opPc) })) ∧
      (∀ (s t : State) (bug : Bool) (j : Instr), fetchInstr bug s = .ok j t → t.opPc = s.pc) ∧
      ∀ (s t : State) (bug : Bool), fetchInstr bug s = .ok i t → t.flags = s.flags ∧ Called 1 s t

/-! ### The bus -/

/-- The router: an address nobody owns faults in its cycle, with the state of the cycles before it; the CPU's
registers and the RAM devices answer. That RAM keeps what is written is the model's `ram` kind of device (log 3), and
that a peripheral answers a free value and changes only its own opaque state is the model's reading of an opaque device
(log 6, DEDUCED). -/
def Obligations.RouterAccess : Prop :=
  ∀ (s : State) (a : Word) (v : Byte),
    (deviceMap s.cfg a = none → routerRead a s = .fault (.unmappedAddress a .read) s ∧
      routerWrite a v s = .fault (.unmappedAddress a .write) s) ∧
    (deviceMap s.cfg a = none → cpuMayAccess a s = true →
      memRead a s = .fault (.unmappedAddress a .read) s ∧ memWrite a v s = .fault (.unmappedAddress a .write) s) ∧
    (deviceMap s.cfg a = some .cpu → routerRead a s = .ok (cpuRegRead a s) s ∧
      routerWrite a v s = .ok () (cpuRegWrite a v s)) ∧
    (deviceMap s.cfg a = some .ram → routerRead a s = .ok (ramByte a s) s ∧
      ∃ t, routerWrite a v s = .ok () t ∧ t = { s with mem := t.mem } ∧ (Memory.wf s.mem = true →
        ∀ x : Word, ramByte x t = if x = a then v else ramByte x s)) ∧
    (deviceMap s.cfg a = some .peripheral → (∃ w t, routerRead a s = .ok w t ∧ t = { s with periph := t.periph }) ∧
      ∃ t, routerWrite a v s = .ok () t ∧ t = { s with periph := t.periph })

/-- IE, IF and DMA: the CPU owns their addresses on every platform; IE keeps eight bits; a DMA write arms a
transfer and leaves one in progress as it is (the spec marks the last as its own choice, decision D12). -/
def Obligations.IeAndDmaRegisters : Prop :=
  ∀ (s : State) (v : Byte),
    deviceMap s.cfg 0xFF0F = some .cpu ∧ deviceMap s.cfg 0xFF46 = some .cpu ∧ deviceMap s.cfg 0xFFFF = some .cpu ∧
    (∀ a : Word, deviceMap s.cfg a = some .cpu → a = 0xFF0F ∨ a = 0xFF46 ∨ a = 0xFFFF) ∧
    routerRead 0xFFFF s = .ok s.ie s ∧ routerWrite 0xFFFF v s = .ok () { s with ie := v } ∧
    routerRead 0xFF46 s = .ok s.dmaReg s ∧
    routerWrite 0xFF46 v s = .ok () { s with dmaReg := v, dmaDelay := 4 }

/-- IF reads its five bits under three ones and a write replaces the five bits (that a write can also clear a bit
is marked as general knowledge); a request sets one bit, and a callback that requests in every call sets it in every
cycle (such a callback is the model's data, log 7). -/
def Obligations.InterruptFlagRegister : Prop :=
  ∀ (s : State) (v : Byte) (n : Fin 5),
    routerRead 0xFF0F s = .ok (0b111#3 ++ s.if5) s ∧
    routerWrite 0xFF0F v s = .ok () { s with if5 := v.extractLsb' 0 5 } ∧
    requestInterrupt n s = { s with if5 := (requestInterrupt n s).if5 } ∧
    (∀ k : Nat, k < 5 → (requestInterrupt n s).if5.getLsbD k = (s.if5.getLsbD k || decide (k = n.val))) ∧
    (s.ext = [] → s.cfg.callback.after = .loop [[.request n]] → ∀ t, dmaStep s = .ok () t →
      internal s = .ok () (requestInterrupt n { t with extCalls := t.extCalls + 1 }))

/-- On a quiet bus a byte stored in RAM is read back by the next read of its address, also by a fetch, and every
other address of RAM reads as before (decision D22 fixes the order of the accesses). -/
def Obligations.ReadAfterWrite : Prop :=
  ∀ (s : State) (a : Word) (v : Byte), Quiet s → Memory.wf s.mem = true → deviceMap s.cfg a = some .ram →
    ∃ t, memWrite a v s = .ok () t ∧ Quiet t ∧ Memory.wf t.mem = true ∧ memRead a t = .ok v t ∧
      (∀ b : Word, b ≠ a → deviceMap s.cfg b = some .ram → ∃ w, memRead b s = .ok w s ∧ memRead b t = .ok w t) ∧
      fetchByte { t with pc := a } = .ok v { t with pc := a + 1 }

/-- While a transfer copies, a CPU access outside 0xFF46 and `DMA_REACHABLE` reads a free value, and a write is done
or not as a free value says. To a read, and to a write that is not done, it does not matter whether the address has an
owner; a write that is done goes through the router and can fault (the policy is the spec's choice, decision D11). -/
def Obligations.DmaPolicyBlocksTheCpu : Prop :=
  ∀ (s : State) (a : Word) (v : Byte), s.dmaActive = true → a ≠ 0xFF46 → inRanges s.cfg.dmaReachable a = false →
    (∀ t, cycle (drawn s) = .ok () t → memRead a s = .ok (Config.dmaConflictRead s.draws) t) ∧
    (Config.dmaConflictWriteTaken s.draws = false → memWrite a v s = cycle (drawn s)) ∧
    (Config.dmaConflictWriteTaken s.draws = true →
      memWrite a v s = (routerWrite a v (drawn s)).bind fun _ t => cycle t)

/-- A machine cycle does not see the CPU: its registers, IME, the EI delay and the run state survive every bus
access and internal cycle, each takes exactly one call of the callback, and with another CPU `c` in the state the DMA
engine and the callback do the same. That an internal cycle also calls the callback is decision D7; what the two do not
see is the spec's own derivation (R167); the calls are counted by the model's own fields (`Called`, log 23). -/
def Obligations.CyclesLeaveTheCpuAlone : Prop :=
  ∀ s t c : State,
    (internal s = .ok () t → SameCpu s t ∧ Called 1 s t) ∧
    (∀ a v, memRead a s = .ok v t → SameCpu s t ∧ Called 1 s t) ∧
    (∀ a v, memWrite a v s = .ok () t → SameCpu s t ∧ Called 1 s t) ∧
    internal (s.withCpu c) = (internal s).onState (·.withCpu c) ∧
    (∀ a, memRead a (s.withCpu c) = (memRead a s).onState (·.withCpu c)) ∧
    ∀ a v, memWrite a v (s.withCpu c) = (memWrite a v s).onState (·.withCpu c)

/-- The OAM transfer (decision D12): after a write of a page to 0xFF46 on a quiet bus, three more cycles pass with
no transfer, then it is active for 160 cycles, each copying one byte, and then OAM holds the 160 source bytes and
every other byte of RAM is as before. -/
def Obligations.DmaTransferCopiesAPage : Prop :=
  ∀ (s : State) (page : Byte), Quiet s → Memory.wf s.mem = true →
    (∀ k : Nat, k < 160 → deviceMap s.cfg ((page ++ 0#8 : Word) + BitVec.ofNat 16 k) = some .ram ∧
      deviceMap s.cfg (0xFE00 + BitVec.ofNat 16 k) = some .ram) →
    ∀ w, routerWrite 0xFF46 page s = .ok () w →
      ∀ n : Nat, n ≤ 164 → ∃ t, internals n w = .ok () t ∧
        (t.dmaActive = true ↔ 4 ≤ n ∧ n < 164) ∧
        (∀ k : Nat, k < 160 → ramByte (0xFE00 + BitVec.ofNat 16 k) t =
          if k + 4 < n then ramByte ((page ++ 0#8 : Word) + BitVec.ofNat 16 k) s
          else ramByte (0xFE00 + BitVec.ofNat 16 k) s) ∧
        ∀ a : Word, (∀ k : Nat, k < 160 → a ≠ 0xFE00 + BitVec.ofNat 16 k) → ramByte a t = ramByte a s

/-- A push and then a pop on a quiet bus over two bytes of RAM give the value and SP back, with the low byte at the
lower address. -/
def Obligations.PopUndoesPush : Prop :=
  ∀ (s : State) (v : Word), Quiet s → Memory.wf s.mem = true → deviceMap s.cfg (s.sp - 1) = some .ram →
    deviceMap s.cfg (s.sp - 2) = some .ram →
    ∃ t, push16 v s = .ok () t ∧ t.sp = s.sp - 2 ∧ ramByte t.sp t = v.extractLsb' 0 8 ∧
      ramByte (t.sp + 1) t = v.extractLsb' 8 8 ∧ pop16 t = .ok v { t with sp := s.sp }

/-! ### The step -/

/-- A step fetches and runs the decoded instruction, with the EI delay resolved first and the dispatch check after
it. The last clause says it in terms of the bytes at PC, on a quiet bus over RAM. The EI delay before the fetch is
decision D8, the checks are decision D6, the fetch of the operands before every other cycle is log 20, STOP's one fetched
byte is decision D10 (log 18), and `opPc` is the model's own field (log 8). -/
def Obligations.StepRunsDecodedInstruction : Prop :=
  ∀ s : State, s.fault = none → dispatchable s = false → s.runState = .normal →
    (∀ i t, fetchInstr false s = .ok i t → step s = endOfTick (exec i t)) ∧
    (∀ k t, fetchInstr false s = .fault k t → step s = .fault (Fault.of k t)) ∧
    ∀ i rest, Quiet s →
      decode [ramByte s.pc s, ramByte (s.pc + 1) s, ramByte (s.pc + 2) s] = .ok (i, rest) →
      (∀ k : Nat, k < i.fetchedBytes → deviceMap s.cfg (s.pc + BitVec.ofNat 16 k) = some .ram) →
      step s = endOfTick (exec i { s with
        ime := s.ime || s.imePending, imePending := false, opPc := s.pc
        pc := s.pc + BitVec.ofNat 16 i.fetchedBytes })

/-- After a HALT with the bug the next opcode fetch does not advance PC, so the byte after HALT is read twice
(decision D26). -/
def Obligations.HaltBugRepeatsAByte : Prop :=
  ∀ (s : State) (i : Instr) (rest : List Byte), s.fault = none → dispatchable s = false →
    s.runState = .haltedBug → Quiet s →
    decode [ramByte s.pc s, ramByte s.pc s, ramByte (s.pc + 1) s] = .ok (i, rest) →
    (∀ k : Nat, k < max 1 (i.fetchedBytes - 1) → deviceMap s.cfg (s.pc + BitVec.ofNat 16 k) = some .ram) →
    step s = endOfTick (exec i { s with
      ime := s.ime || s.imePending, imePending := false, opPc := s.pc, runState := .normal
      pc := s.pc + BitVec.ofNat 16 (i.fetchedBytes - 1) })

/-- The checks around an instruction (decisions D6 and D28): a faulted machine has no step; a dispatch that is due
at the start of a tick is all the tick does, in every run state; one that is due after the instruction follows
it. -/
def Obligations.DispatchChecks : Prop :=
  (∀ s : State, s.fault ≠ none → step s = .refused .faultedMachine) ∧
    (∀ s : State, s.fault = none → s.ime = true → s.ie.setWidth 5 &&& s.if5 ≠ 0 → step s = (dispatch s).out) ∧
    ∀ t : State, endOfTick (.next t) =
      if t.ime = true ∧ t.ie.setWidth 5 &&& t.if5 ≠ 0 then (dispatch t).out else .next t

/-- Taking an interrupt: the lowest enabled request n is taken; IME and bit n of IF are cleared, and only they;
five cycles, two of them the push of PC; PC is 0x40 + 8n. On a quiet bus over RAM the whole state is said. That the source
and the vector stay fixed whatever the five cycles or a push into IE do is decision D32, and the hardware's IE push quirk
is not modelled (R401, log 19); that every run state becomes NORMAL is decision D20; the calls are counted as log 23
says. -/
def Obligations.DispatchTakesTheLowestRequest : Prop :=
  ∀ (s : State) (n : Fin 5), (s.ie.setWidth 5 &&& s.if5).getLsbD n = true →
    (∀ j : Fin 5, j < n → (s.ie.setWidth 5 &&& s.if5).getLsbD j = false) →
    (∀ t, dispatch s = .ok () t →
      SameCpu { s with ime := false, runState := .normal, sp := s.sp - 2
                       pc := BitVec.ofNat 16 (0x40 + 8 * n.val) } t ∧ Called 5 s t) ∧
    (Quiet s → deviceMap s.cfg (s.sp - 1) = some .ram → deviceMap s.cfg (s.sp - 2) = some .ram →
      ∃ f : BitVec 5, (∀ j : Fin 5, f.getLsbD j = (s.if5.getLsbD j && decide (j ≠ n))) ∧
      dispatch s = .ok () { s with
        ime := false, if5 := f, runState := .normal, sp := s.sp - 2
        mem := Mem.write (Mem.write s.mem (s.sp - 1).toNat (hiByte s.pc)) (s.sp - 2).toNat (loByte s.pc)
        pc := BitVec.ofNat 16 (0x40 + 8 * n.val) })

/-- A HALTED tick wakes and runs the instruction at PC where an enabled request is pending with IME = 0, and else
spends one cycle and keeps PC; STOPPED does the same under `STOP_WAKE` = pending and never wakes without a dispatch
under `STOP_WAKE` = never (decisions D9 and D10). -/
def Obligations.WaitingTicks : Prop :=
  ∀ s : State, s.fault = none → dispatchable s = false → s.runState = .halted ∨ s.runState = .stopped →
    (pending s = true → (s.runState = .halted ∨ s.cfg.stopWake = .pending) →
      step s = step { s with runState := .normal }) ∧
    (pending s = false ∨ s.runState = .stopped ∧ s.cfg.stopWake = .never →
      step s = endOfTick (internal s).out ∧
      (∀ t, internal s = .ok () t → t.pc = s.pc ∧ t.runState = s.runState ∧ Called 1 s t) ∧
      (Quiet s → step s = .next s))

/-- EI takes effect one instruction late (decision D8): the tick of EI sets only the delay and cannot dispatch, with
any request pending; the next instruction's tick runs with IME set. -/
def Obligations.EiTakesEffectOneInstructionLate : Prop :=
  ∀ s t : State, s.fault = none → s.runState = .normal → s.ime = false → s.imePending = false →
    fetchInstr false s = .ok .ei t →
    step s = .next { t with imePending := true } ∧
      ∀ i u, fetchInstr false { t with imePending := true } = .ok i u →
        u.ime = true ∧ u.imePending = false ∧ step { t with imePending := true } = endOfTick (exec i u)

/-! ### What every instruction may change, and how long it takes -/

/-- Registers and flags: an instruction that runs to a next state leaves every 8-bit register alone that is not its
destination (R32), and all four flags where it writes none (the table of R35). What is a destination of which instruction is
marked as general knowledge (R32, log 24). -/
def Obligations.RegisterAndFlagFrame : Prop :=
  ∀ (i : Instr) (s t : State), i.wellFormed = true → exec i s = .next t →
    (∀ r, i.shape.writesReg r = false → t.reg r = s.reg r) ∧ (i.shape.writesFlags = false → t.flags = s.flags)

/-- SP, IME, the EI delay and the run state change in the instructions the rules name and in no other; no
instruction that runs to a next state changes the fault, the address of its fetch or the platform. The EI
delay is decision D8, RETI's part in it D21, STOP D10, the mask in HALT's test D5 (log 24), and `opPc` is the model's
own field (log 8). -/
def Obligations.ControlStateFrame : Prop :=
  ∀ (i : Instr) (s t : State), i.wellFormed = true → exec i s = .next t →
    t.sp = i.shape.spAfter s ∧
    t.ime = (if i.shape = .di then false else if i.shape = .reti then true else s.ime) ∧
    t.imePending = (if i.shape = .di ∨ i.shape = .reti then false
      else if i.shape = .ei then s.imePending || !s.ime else s.imePending) ∧
    t.runState = (if i.shape = .stop then .stopped
      else if i.shape = .halt then (if s.ime = false ∧ pending s = true then .haltedBug else .halted)
      else s.runState) ∧
    t.fault = s.fault ∧ t.opPc = s.opPc ∧ t.cfg = s.cfg

/-- On a quiet bus an instruction changes no byte but those it stores to: every RAM byte, IF, the DMA register and IE
read as before at every other address, and no transfer is armed unless 0xFF46 is stored to. -/
def Obligations.MemoryFrame : Prop :=
  ∀ (i : Instr) (s t : State), i.wellFormed = true → Quiet s → exec i s = .next t →
    (∀ a : Word, a ∉ i.shape.storeAddrs s → deviceMap s.cfg a ≠ some .peripheral → peek a t = peek a s) ∧
    (0xFF46 ∉ i.shape.storeAddrs s → Quiet t)

/-- Machine cycles: the fetch takes one for each fetched byte, and the whole instruction as many as the table of R431
says (marked as general knowledge there), each with one call of the callback (counted as log 23 says). -/
def Obligations.MachineCycles : Prop :=
  (∀ (bug : Bool) (s t : State) (i : Instr), fetchInstr bug s = .ok i t → Called i.fetchedBytes s t) ∧
    ∀ (i : Instr) (s t : State), i.wellFormed = true → exec i s = .next t →
      i.fetchedBytes ≤ i.shape.cycles s.cfg s.flags ∧
        Called (i.shape.cycles s.cfg s.flags - i.fetchedBytes) s t

/-! ### The headline results -/

/-- Every instruction of the ISA completes from every state of a platform with no unmapped address, whatever the
DMA engine and the callback do. -/
def Obligations.EveryInstructionCompletes : Prop :=
  ∀ (i : Instr) (s : State), i.legal = true → FullyMapped s.cfg →
    ∃ t, exec i s = .next t ∧ t.cfg = s.cfg ∧ t.fault = s.fault ∧
      (i.wellFormed = true → t.sp = i.shape.spAfter s)

/-- On a platform with no unmapped address a running machine always takes a step, and the only stop is an illegal
opcode. -/
def Obligations.OnlyIllegalOpcodesStop : Prop :=
  ∀ s : State, s.fault = none → FullyMapped s.cfg →
    (∃ t, step s = .next t) ∨
      ∃ op pc left, step s = .fault (.illegalOpcode op pc left) ∧
        op ∈ ([0xD3, 0xDB, 0xDD, 0xE3, 0xE4, 0xEB, 0xEC, 0xED, 0xF4, 0xFC, 0xFD] : List Byte)

/-- The platform is fixed after construction: a constructed machine has no address with two owners, and no step
changes the owner of an address. -/
def Obligations.DeviceMapIsConstant : Prop :=
  (∀ (cfg : Config) (s : State), construct cfg = .next s → s.cfg = cfg ∧
    NoSharedAddress (cpuRanges :: cfg.devices.map Device.ranges)) ∧
  ∀ s t : State, step s = .next t → t.cfg = s.cfg ∧ ∀ a : Word, deviceMap t.cfg a = deviceMap s.cfg a

/-- The invariant holds at construction, for all parameters and in particular at reset. -/
def Obligations.InvariantAtConstruction : Prop :=
  (∀ cfg : Config, (State.init cfg).Inv) ∧ State.reset.Inv

/-- Every step keeps the invariant: memory in its canonical form, the DMA engine in its domains, no fault. -/
def Obligations.StepKeepsInvariant : Prop :=
  ∀ s t : State, s.Inv → step s = .next t → t.Inv
end

