-- ==== Sys2Proof/Laws/Memory.lean ====
section
/-! SUPPORT. The RAM contents: a read after a write, and that a write keeps the canonical form. -/

namespace Sys2Proof.Machine

/-- Below its first entry a canonical form lists nothing. -/
theorem read_below {k a : Nat} {m : List Host.Cell} (hm : Mem.wfFrom k m = true) (h : a < k) :
    Mem.read m a = 0x00 := by
  induction m generalizing k with
  | nil => rfl
  | cons q m ih =>
    obtain ⟨c, x⟩ := q
    simp only [Mem.wfFrom, Bool.and_eq_true, decide_eq_true_eq] at hm
    rw [Mem.read, if_neg (by omega)]
    exact ih hm.2 (by omega)

/-- A read of the address just written. -/
theorem read_write_from {lo : Nat} {m : List Host.Cell} (a : Nat) (v : Byte) (hm : Mem.wfFrom lo m = true) :
    Mem.read (Mem.write m a v) a = v := by
  induction m generalizing lo with
  | nil => by_cases h : v = 0#8 <;> simp [Mem.write, Mem.read, h]
  | cons p m ih =>
    obtain ⟨b, w⟩ := p
    simp only [Mem.wfFrom, Bool.and_eq_true, decide_eq_true_eq] at hm
    by_cases h1 : b < a
    · simp [Mem.write, h1, Mem.read, show b ≠ a by omega, ih hm.2]
    · by_cases h2 : b = a
      · by_cases h3 : v = 0#8
        · simp [Mem.write, h2, h3, read_below hm.2 (show a < b + 1 by omega)]
        · simp [Mem.write, h2, h3, Mem.read]
      · by_cases h3 : v = 0#8
        · simp [Mem.write, h1, h2, h3, Mem.read, read_below hm.2 (show a < b + 1 by omega)]
        · simp [Mem.write, h1, h2, h3, Mem.read]

/-- A read after a write to the same address gives the value written (R90). -/
theorem read_write_same {m : List Host.Cell} (a : Nat) (v : Byte) (hm : Memory.wf m = true) :
    Mem.read (Mem.write m a v) a = v := read_write_from a v hm

/-- A write leaves every other address alone. -/
theorem read_write_other (m : List Host.Cell) {a c : Nat} (v : Byte) (h : c ≠ a) :
    Mem.read (Mem.write m a v) c = Mem.read m c := by
  induction m with
  | nil => by_cases hv : v = 0#8 <;> simp [Mem.write, Mem.read, hv, Ne.symm h]
  | cons p m ih =>
    obtain ⟨b, w⟩ := p
    by_cases h1 : b < a
    · simp [Mem.write, h1, Mem.read, ih]
    · by_cases h2 : b = a
      · by_cases h3 : v = 0#8 <;> simp [Mem.write, h2, h3, Mem.read, Ne.symm h]
      · by_cases h3 : v = 0#8 <;> simp [Mem.write, h1, h2, h3, Mem.read, Ne.symm h]

/-- A canonical form is one from every lower address too. -/
theorem wfFrom_lower {lo lo' : Nat} {m : List Host.Cell} (h : lo' ≤ lo) (hm : Mem.wfFrom lo m = true) :
    Mem.wfFrom lo' m = true := by
  cases m with
  | nil => rfl
  | cons p m =>
    obtain ⟨b, w⟩ := p
    simp only [Mem.wfFrom, Bool.and_eq_true, decide_eq_true_eq] at hm ⊢
    exact ⟨⟨⟨by omega, hm.1.1.2⟩, hm.1.2⟩, hm.2⟩

/-- A write at or above `lo` keeps the canonical form from `lo`. -/
theorem wfFrom_write {lo : Nat} {m : List Host.Cell} {a : Nat} (v : Byte) (hlo : lo ≤ a) (ha : a < 0x10000)
    (hm : Mem.wfFrom lo m = true) : Mem.wfFrom lo (Mem.write m a v) = true := by
  induction m generalizing lo with
  | nil => by_cases h : v = 0#8 <;> simp [Mem.write, Mem.wfFrom, h, hlo, ha]
  | cons p m ih =>
    obtain ⟨b, w⟩ := p
    have hm' := hm
    simp only [Mem.wfFrom, Bool.and_eq_true, decide_eq_true_eq] at hm'
    by_cases h1 : b < a
    · simp only [Mem.write, h1, if_true, Mem.wfFrom, Bool.and_eq_true, decide_eq_true_eq]
      exact ⟨hm'.1, ih (by omega) hm'.2⟩
    · by_cases h2 : b = a
      · subst h2
        by_cases h3 : v = 0#8
        · simp [Mem.write, h3, wfFrom_lower (show lo ≤ b + 1 by omega) hm'.2]
        · simp [Mem.write, h3, Mem.wfFrom, hlo, ha, hm'.2]
      · by_cases h3 : v = 0#8
        · simp [Mem.write, h1, h2, h3, hm]
        · have hw : w ≠ 0#8 := by simpa using hm'.1.2
          simp [Mem.write, h1, h2, h3, Mem.wfFrom, hlo, ha, hw, show a + 1 ≤ b by omega, hm'.1.1.2, hm'.2]

/-- A write keeps the canonical form of memory. -/
theorem wf_write {m : List Host.Cell} (a : Word) (v : Byte) (hm : Memory.wf m = true) :
    Memory.wf (Mem.write m a.toNat v) = true := wfFrom_write v (Nat.zero_le _) a.isLt hm

end Sys2Proof.Machine
end

