-- ==== Sys2Proof/Laws/State.lean ====
section
/-! SUPPORT. One lemma for each field of State and each named update that leaves it alone, and what the pair and
register updates read back, so that no later proof unfolds a record update. -/

namespace Sys2Proof.Machine

/-! ### setBc -/

@[simp] theorem setBc_a (v : Word) (s : State) : (s.setBc v).a = s.a := rfl
@[simp] theorem setBc_d (v : Word) (s : State) : (s.setBc v).d = s.d := rfl
@[simp] theorem setBc_e (v : Word) (s : State) : (s.setBc v).e = s.e := rfl
@[simp] theorem setBc_h (v : Word) (s : State) : (s.setBc v).h = s.h := rfl
@[simp] theorem setBc_l (v : Word) (s : State) : (s.setBc v).l = s.l := rfl
@[simp] theorem setBc_flags (v : Word) (s : State) : (s.setBc v).flags = s.flags := rfl
@[simp] theorem setBc_sp (v : Word) (s : State) : (s.setBc v).sp = s.sp := rfl
@[simp] theorem setBc_pc (v : Word) (s : State) : (s.setBc v).pc = s.pc := rfl
@[simp] theorem setBc_ime (v : Word) (s : State) : (s.setBc v).ime = s.ime := rfl
@[simp] theorem setBc_imePending (v : Word) (s : State) : (s.setBc v).imePending = s.imePending := rfl
@[simp] theorem setBc_ie (v : Word) (s : State) : (s.setBc v).ie = s.ie := rfl
@[simp] theorem setBc_if5 (v : Word) (s : State) : (s.setBc v).if5 = s.if5 := rfl
@[simp] theorem setBc_runState (v : Word) (s : State) : (s.setBc v).runState = s.runState := rfl
@[simp] theorem setBc_dmaReg (v : Word) (s : State) : (s.setBc v).dmaReg = s.dmaReg := rfl
@[simp] theorem setBc_dmaDelay (v : Word) (s : State) : (s.setBc v).dmaDelay = s.dmaDelay := rfl
@[simp] theorem setBc_dmaSrc (v : Word) (s : State) : (s.setBc v).dmaSrc = s.dmaSrc := rfl
@[simp] theorem setBc_dmaIndex (v : Word) (s : State) : (s.setBc v).dmaIndex = s.dmaIndex := rfl
@[simp] theorem setBc_dmaActive (v : Word) (s : State) : (s.setBc v).dmaActive = s.dmaActive := rfl
@[simp] theorem setBc_fault (v : Word) (s : State) : (s.setBc v).fault = s.fault := rfl
@[simp] theorem setBc_mem (v : Word) (s : State) : (s.setBc v).mem = s.mem := rfl
@[simp] theorem setBc_ext (v : Word) (s : State) : (s.setBc v).ext = s.ext := rfl
@[simp] theorem setBc_extCalls (v : Word) (s : State) : (s.setBc v).extCalls = s.extCalls := rfl
@[simp] theorem setBc_periph (v : Word) (s : State) : (s.setBc v).periph = s.periph := rfl
@[simp] theorem setBc_draws (v : Word) (s : State) : (s.setBc v).draws = s.draws := rfl
@[simp] theorem setBc_opPc (v : Word) (s : State) : (s.setBc v).opPc = s.opPc := rfl
@[simp] theorem setBc_cfg (v : Word) (s : State) : (s.setBc v).cfg = s.cfg := rfl
@[simp] theorem setBc_b (v : Word) (s : State) : (s.setBc v).b = hiByte v := rfl
@[simp] theorem setBc_c (v : Word) (s : State) : (s.setBc v).c = loByte v := rfl

/-! ### setDe -/

@[simp] theorem setDe_a (v : Word) (s : State) : (s.setDe v).a = s.a := rfl
@[simp] theorem setDe_b (v : Word) (s : State) : (s.setDe v).b = s.b := rfl
@[simp] theorem setDe_c (v : Word) (s : State) : (s.setDe v).c = s.c := rfl
@[simp] theorem setDe_h (v : Word) (s : State) : (s.setDe v).h = s.h := rfl
@[simp] theorem setDe_l (v : Word) (s : State) : (s.setDe v).l = s.l := rfl
@[simp] theorem setDe_flags (v : Word) (s : State) : (s.setDe v).flags = s.flags := rfl
@[simp] theorem setDe_sp (v : Word) (s : State) : (s.setDe v).sp = s.sp := rfl
@[simp] theorem setDe_pc (v : Word) (s : State) : (s.setDe v).pc = s.pc := rfl
@[simp] theorem setDe_ime (v : Word) (s : State) : (s.setDe v).ime = s.ime := rfl
@[simp] theorem setDe_imePending (v : Word) (s : State) : (s.setDe v).imePending = s.imePending := rfl
@[simp] theorem setDe_ie (v : Word) (s : State) : (s.setDe v).ie = s.ie := rfl
@[simp] theorem setDe_if5 (v : Word) (s : State) : (s.setDe v).if5 = s.if5 := rfl
@[simp] theorem setDe_runState (v : Word) (s : State) : (s.setDe v).runState = s.runState := rfl
@[simp] theorem setDe_dmaReg (v : Word) (s : State) : (s.setDe v).dmaReg = s.dmaReg := rfl
@[simp] theorem setDe_dmaDelay (v : Word) (s : State) : (s.setDe v).dmaDelay = s.dmaDelay := rfl
@[simp] theorem setDe_dmaSrc (v : Word) (s : State) : (s.setDe v).dmaSrc = s.dmaSrc := rfl
@[simp] theorem setDe_dmaIndex (v : Word) (s : State) : (s.setDe v).dmaIndex = s.dmaIndex := rfl
@[simp] theorem setDe_dmaActive (v : Word) (s : State) : (s.setDe v).dmaActive = s.dmaActive := rfl
@[simp] theorem setDe_fault (v : Word) (s : State) : (s.setDe v).fault = s.fault := rfl
@[simp] theorem setDe_mem (v : Word) (s : State) : (s.setDe v).mem = s.mem := rfl
@[simp] theorem setDe_ext (v : Word) (s : State) : (s.setDe v).ext = s.ext := rfl
@[simp] theorem setDe_extCalls (v : Word) (s : State) : (s.setDe v).extCalls = s.extCalls := rfl
@[simp] theorem setDe_periph (v : Word) (s : State) : (s.setDe v).periph = s.periph := rfl
@[simp] theorem setDe_draws (v : Word) (s : State) : (s.setDe v).draws = s.draws := rfl
@[simp] theorem setDe_opPc (v : Word) (s : State) : (s.setDe v).opPc = s.opPc := rfl
@[simp] theorem setDe_cfg (v : Word) (s : State) : (s.setDe v).cfg = s.cfg := rfl
@[simp] theorem setDe_d (v : Word) (s : State) : (s.setDe v).d = hiByte v := rfl
@[simp] theorem setDe_e (v : Word) (s : State) : (s.setDe v).e = loByte v := rfl

/-! ### setHl -/

@[simp] theorem setHl_a (v : Word) (s : State) : (s.setHl v).a = s.a := rfl
@[simp] theorem setHl_b (v : Word) (s : State) : (s.setHl v).b = s.b := rfl
@[simp] theorem setHl_c (v : Word) (s : State) : (s.setHl v).c = s.c := rfl
@[simp] theorem setHl_d (v : Word) (s : State) : (s.setHl v).d = s.d := rfl
@[simp] theorem setHl_e (v : Word) (s : State) : (s.setHl v).e = s.e := rfl
@[simp] theorem setHl_flags (v : Word) (s : State) : (s.setHl v).flags = s.flags := rfl
@[simp] theorem setHl_sp (v : Word) (s : State) : (s.setHl v).sp = s.sp := rfl
@[simp] theorem setHl_pc (v : Word) (s : State) : (s.setHl v).pc = s.pc := rfl
@[simp] theorem setHl_ime (v : Word) (s : State) : (s.setHl v).ime = s.ime := rfl
@[simp] theorem setHl_imePending (v : Word) (s : State) : (s.setHl v).imePending = s.imePending := rfl
@[simp] theorem setHl_ie (v : Word) (s : State) : (s.setHl v).ie = s.ie := rfl
@[simp] theorem setHl_if5 (v : Word) (s : State) : (s.setHl v).if5 = s.if5 := rfl
@[simp] theorem setHl_runState (v : Word) (s : State) : (s.setHl v).runState = s.runState := rfl
@[simp] theorem setHl_dmaReg (v : Word) (s : State) : (s.setHl v).dmaReg = s.dmaReg := rfl
@[simp] theorem setHl_dmaDelay (v : Word) (s : State) : (s.setHl v).dmaDelay = s.dmaDelay := rfl
@[simp] theorem setHl_dmaSrc (v : Word) (s : State) : (s.setHl v).dmaSrc = s.dmaSrc := rfl
@[simp] theorem setHl_dmaIndex (v : Word) (s : State) : (s.setHl v).dmaIndex = s.dmaIndex := rfl
@[simp] theorem setHl_dmaActive (v : Word) (s : State) : (s.setHl v).dmaActive = s.dmaActive := rfl
@[simp] theorem setHl_fault (v : Word) (s : State) : (s.setHl v).fault = s.fault := rfl
@[simp] theorem setHl_mem (v : Word) (s : State) : (s.setHl v).mem = s.mem := rfl
@[simp] theorem setHl_ext (v : Word) (s : State) : (s.setHl v).ext = s.ext := rfl
@[simp] theorem setHl_extCalls (v : Word) (s : State) : (s.setHl v).extCalls = s.extCalls := rfl
@[simp] theorem setHl_periph (v : Word) (s : State) : (s.setHl v).periph = s.periph := rfl
@[simp] theorem setHl_draws (v : Word) (s : State) : (s.setHl v).draws = s.draws := rfl
@[simp] theorem setHl_opPc (v : Word) (s : State) : (s.setHl v).opPc = s.opPc := rfl
@[simp] theorem setHl_cfg (v : Word) (s : State) : (s.setHl v).cfg = s.cfg := rfl
@[simp] theorem setHl_h (v : Word) (s : State) : (s.setHl v).h = hiByte v := rfl
@[simp] theorem setHl_l (v : Word) (s : State) : (s.setHl v).l = loByte v := rfl

/-! ### setAf -/

@[simp] theorem setAf_b (v : Word) (s : State) : (s.setAf v).b = s.b := rfl
@[simp] theorem setAf_c (v : Word) (s : State) : (s.setAf v).c = s.c := rfl
@[simp] theorem setAf_d (v : Word) (s : State) : (s.setAf v).d = s.d := rfl
@[simp] theorem setAf_e (v : Word) (s : State) : (s.setAf v).e = s.e := rfl
@[simp] theorem setAf_h (v : Word) (s : State) : (s.setAf v).h = s.h := rfl
@[simp] theorem setAf_l (v : Word) (s : State) : (s.setAf v).l = s.l := rfl
@[simp] theorem setAf_sp (v : Word) (s : State) : (s.setAf v).sp = s.sp := rfl
@[simp] theorem setAf_pc (v : Word) (s : State) : (s.setAf v).pc = s.pc := rfl
@[simp] theorem setAf_ime (v : Word) (s : State) : (s.setAf v).ime = s.ime := rfl
@[simp] theorem setAf_imePending (v : Word) (s : State) : (s.setAf v).imePending = s.imePending := rfl
@[simp] theorem setAf_ie (v : Word) (s : State) : (s.setAf v).ie = s.ie := rfl
@[simp] theorem setAf_if5 (v : Word) (s : State) : (s.setAf v).if5 = s.if5 := rfl
@[simp] theorem setAf_runState (v : Word) (s : State) : (s.setAf v).runState = s.runState := rfl
@[simp] theorem setAf_dmaReg (v : Word) (s : State) : (s.setAf v).dmaReg = s.dmaReg := rfl
@[simp] theorem setAf_dmaDelay (v : Word) (s : State) : (s.setAf v).dmaDelay = s.dmaDelay := rfl
@[simp] theorem setAf_dmaSrc (v : Word) (s : State) : (s.setAf v).dmaSrc = s.dmaSrc := rfl
@[simp] theorem setAf_dmaIndex (v : Word) (s : State) : (s.setAf v).dmaIndex = s.dmaIndex := rfl
@[simp] theorem setAf_dmaActive (v : Word) (s : State) : (s.setAf v).dmaActive = s.dmaActive := rfl
@[simp] theorem setAf_fault (v : Word) (s : State) : (s.setAf v).fault = s.fault := rfl
@[simp] theorem setAf_mem (v : Word) (s : State) : (s.setAf v).mem = s.mem := rfl
@[simp] theorem setAf_ext (v : Word) (s : State) : (s.setAf v).ext = s.ext := rfl
@[simp] theorem setAf_extCalls (v : Word) (s : State) : (s.setAf v).extCalls = s.extCalls := rfl
@[simp] theorem setAf_periph (v : Word) (s : State) : (s.setAf v).periph = s.periph := rfl
@[simp] theorem setAf_draws (v : Word) (s : State) : (s.setAf v).draws = s.draws := rfl
@[simp] theorem setAf_opPc (v : Word) (s : State) : (s.setAf v).opPc = s.opPc := rfl
@[simp] theorem setAf_cfg (v : Word) (s : State) : (s.setAf v).cfg = s.cfg := rfl
@[simp] theorem setAf_a (v : Word) (s : State) : (s.setAf v).a = hiByte v := rfl
@[simp] theorem setAf_flags (v : Word) (s : State) : (s.setAf v).flags = Flags.ofByte (loByte v) := rfl

/-! ### setReg -/

@[simp] theorem setReg_flags (r : Reg8) (v : Byte) (s : State) : (s.setReg r v).flags = s.flags := by cases r <;> rfl
@[simp] theorem setReg_sp (r : Reg8) (v : Byte) (s : State) : (s.setReg r v).sp = s.sp := by cases r <;> rfl
@[simp] theorem setReg_pc (r : Reg8) (v : Byte) (s : State) : (s.setReg r v).pc = s.pc := by cases r <;> rfl
@[simp] theorem setReg_ime (r : Reg8) (v : Byte) (s : State) : (s.setReg r v).ime = s.ime := by cases r <;> rfl
@[simp] theorem setReg_imePending (r : Reg8) (v : Byte) (s : State) : (s.setReg r v).imePending = s.imePending := by cases r <;> rfl
@[simp] theorem setReg_ie (r : Reg8) (v : Byte) (s : State) : (s.setReg r v).ie = s.ie := by cases r <;> rfl
@[simp] theorem setReg_if5 (r : Reg8) (v : Byte) (s : State) : (s.setReg r v).if5 = s.if5 := by cases r <;> rfl
@[simp] theorem setReg_runState (r : Reg8) (v : Byte) (s : State) : (s.setReg r v).runState = s.runState := by cases r <;> rfl
@[simp] theorem setReg_dmaReg (r : Reg8) (v : Byte) (s : State) : (s.setReg r v).dmaReg = s.dmaReg := by cases r <;> rfl
@[simp] theorem setReg_dmaDelay (r : Reg8) (v : Byte) (s : State) : (s.setReg r v).dmaDelay = s.dmaDelay := by cases r <;> rfl
@[simp] theorem setReg_dmaSrc (r : Reg8) (v : Byte) (s : State) : (s.setReg r v).dmaSrc = s.dmaSrc := by cases r <;> rfl
@[simp] theorem setReg_dmaIndex (r : Reg8) (v : Byte) (s : State) : (s.setReg r v).dmaIndex = s.dmaIndex := by cases r <;> rfl
@[simp] theorem setReg_dmaActive (r : Reg8) (v : Byte) (s : State) : (s.setReg r v).dmaActive = s.dmaActive := by cases r <;> rfl
@[simp] theorem setReg_fault (r : Reg8) (v : Byte) (s : State) : (s.setReg r v).fault = s.fault := by cases r <;> rfl
@[simp] theorem setReg_mem (r : Reg8) (v : Byte) (s : State) : (s.setReg r v).mem = s.mem := by cases r <;> rfl
@[simp] theorem setReg_ext (r : Reg8) (v : Byte) (s : State) : (s.setReg r v).ext = s.ext := by cases r <;> rfl
@[simp] theorem setReg_extCalls (r : Reg8) (v : Byte) (s : State) : (s.setReg r v).extCalls = s.extCalls := by cases r <;> rfl
@[simp] theorem setReg_periph (r : Reg8) (v : Byte) (s : State) : (s.setReg r v).periph = s.periph := by cases r <;> rfl
@[simp] theorem setReg_draws (r : Reg8) (v : Byte) (s : State) : (s.setReg r v).draws = s.draws := by cases r <;> rfl
@[simp] theorem setReg_opPc (r : Reg8) (v : Byte) (s : State) : (s.setReg r v).opPc = s.opPc := by cases r <;> rfl
@[simp] theorem setReg_cfg (r : Reg8) (v : Byte) (s : State) : (s.setReg r v).cfg = s.cfg := by cases r <;> rfl

/-! ### setPair -/

@[simp] theorem setPair_a (p : RegDd) (v : Word) (s : State) : (s.setPair p v).a = s.a := by cases p <;> rfl
@[simp] theorem setPair_flags (p : RegDd) (v : Word) (s : State) : (s.setPair p v).flags = s.flags := by cases p <;> rfl
@[simp] theorem setPair_pc (p : RegDd) (v : Word) (s : State) : (s.setPair p v).pc = s.pc := by cases p <;> rfl
@[simp] theorem setPair_ime (p : RegDd) (v : Word) (s : State) : (s.setPair p v).ime = s.ime := by cases p <;> rfl
@[simp] theorem setPair_imePending (p : RegDd) (v : Word) (s : State) : (s.setPair p v).imePending = s.imePending := by cases p <;> rfl
@[simp] theorem setPair_ie (p : RegDd) (v : Word) (s : State) : (s.setPair p v).ie = s.ie := by cases p <;> rfl
@[simp] theorem setPair_if5 (p : RegDd) (v : Word) (s : State) : (s.setPair p v).if5 = s.if5 := by cases p <;> rfl
@[simp] theorem setPair_runState (p : RegDd) (v : Word) (s : State) : (s.setPair p v).runState = s.runState := by cases p <;> rfl
@[simp] theorem setPair_dmaReg (p : RegDd) (v : Word) (s : State) : (s.setPair p v).dmaReg = s.dmaReg := by cases p <;> rfl
@[simp] theorem setPair_dmaDelay (p : RegDd) (v : Word) (s : State) : (s.setPair p v).dmaDelay = s.dmaDelay := by cases p <;> rfl
@[simp] theorem setPair_dmaSrc (p : RegDd) (v : Word) (s : State) : (s.setPair p v).dmaSrc = s.dmaSrc := by cases p <;> rfl
@[simp] theorem setPair_dmaIndex (p : RegDd) (v : Word) (s : State) : (s.setPair p v).dmaIndex = s.dmaIndex := by cases p <;> rfl
@[simp] theorem setPair_dmaActive (p : RegDd) (v : Word) (s : State) : (s.setPair p v).dmaActive = s.dmaActive := by cases p <;> rfl
@[simp] theorem setPair_fault (p : RegDd) (v : Word) (s : State) : (s.setPair p v).fault = s.fault := by cases p <;> rfl
@[simp] theorem setPair_mem (p : RegDd) (v : Word) (s : State) : (s.setPair p v).mem = s.mem := by cases p <;> rfl
@[simp] theorem setPair_ext (p : RegDd) (v : Word) (s : State) : (s.setPair p v).ext = s.ext := by cases p <;> rfl
@[simp] theorem setPair_extCalls (p : RegDd) (v : Word) (s : State) : (s.setPair p v).extCalls = s.extCalls := by cases p <;> rfl
@[simp] theorem setPair_periph (p : RegDd) (v : Word) (s : State) : (s.setPair p v).periph = s.periph := by cases p <;> rfl
@[simp] theorem setPair_draws (p : RegDd) (v : Word) (s : State) : (s.setPair p v).draws = s.draws := by cases p <;> rfl
@[simp] theorem setPair_opPc (p : RegDd) (v : Word) (s : State) : (s.setPair p v).opPc = s.opPc := by cases p <;> rfl
@[simp] theorem setPair_cfg (p : RegDd) (v : Word) (s : State) : (s.setPair p v).cfg = s.cfg := by cases p <;> rfl

/-! ### setStackPair -/

@[simp] theorem setStackPair_sp (q : RegQq) (v : Word) (s : State) : (s.setStackPair q v).sp = s.sp := by cases q <;> rfl
@[simp] theorem setStackPair_pc (q : RegQq) (v : Word) (s : State) : (s.setStackPair q v).pc = s.pc := by cases q <;> rfl
@[simp] theorem setStackPair_ime (q : RegQq) (v : Word) (s : State) : (s.setStackPair q v).ime = s.ime := by cases q <;> rfl
@[simp] theorem setStackPair_imePending (q : RegQq) (v : Word) (s : State) : (s.setStackPair q v).imePending = s.imePending := by cases q <;> rfl
@[simp] theorem setStackPair_ie (q : RegQq) (v : Word) (s : State) : (s.setStackPair q v).ie = s.ie := by cases q <;> rfl
@[simp] theorem setStackPair_if5 (q : RegQq) (v : Word) (s : State) : (s.setStackPair q v).if5 = s.if5 := by cases q <;> rfl
@[simp] theorem setStackPair_runState (q : RegQq) (v : Word) (s : State) : (s.setStackPair q v).runState = s.runState := by cases q <;> rfl
@[simp] theorem setStackPair_dmaReg (q : RegQq) (v : Word) (s : State) : (s.setStackPair q v).dmaReg = s.dmaReg := by cases q <;> rfl
@[simp] theorem setStackPair_dmaDelay (q : RegQq) (v : Word) (s : State) : (s.setStackPair q v).dmaDelay = s.dmaDelay := by cases q <;> rfl
@[simp] theorem setStackPair_dmaSrc (q : RegQq) (v : Word) (s : State) : (s.setStackPair q v).dmaSrc = s.dmaSrc := by cases q <;> rfl
@[simp] theorem setStackPair_dmaIndex (q : RegQq) (v : Word) (s : State) : (s.setStackPair q v).dmaIndex = s.dmaIndex := by cases q <;> rfl
@[simp] theorem setStackPair_dmaActive (q : RegQq) (v : Word) (s : State) : (s.setStackPair q v).dmaActive = s.dmaActive := by cases q <;> rfl
@[simp] theorem setStackPair_fault (q : RegQq) (v : Word) (s : State) : (s.setStackPair q v).fault = s.fault := by cases q <;> rfl
@[simp] theorem setStackPair_mem (q : RegQq) (v : Word) (s : State) : (s.setStackPair q v).mem = s.mem := by cases q <;> rfl
@[simp] theorem setStackPair_ext (q : RegQq) (v : Word) (s : State) : (s.setStackPair q v).ext = s.ext := by cases q <;> rfl
@[simp] theorem setStackPair_extCalls (q : RegQq) (v : Word) (s : State) : (s.setStackPair q v).extCalls = s.extCalls := by cases q <;> rfl
@[simp] theorem setStackPair_periph (q : RegQq) (v : Word) (s : State) : (s.setStackPair q v).periph = s.periph := by cases q <;> rfl
@[simp] theorem setStackPair_draws (q : RegQq) (v : Word) (s : State) : (s.setStackPair q v).draws = s.draws := by cases q <;> rfl
@[simp] theorem setStackPair_opPc (q : RegQq) (v : Word) (s : State) : (s.setStackPair q v).opPc = s.opPc := by cases q <;> rfl
@[simp] theorem setStackPair_cfg (q : RegQq) (v : Word) (s : State) : (s.setStackPair q v).cfg = s.cfg := by cases q <;> rfl

/-! ### applyAlu -/

@[simp] theorem applyAlu_b (op : AluOp) (v : Byte) (s : State) : (applyAlu op v s).b = s.b := rfl
@[simp] theorem applyAlu_c (op : AluOp) (v : Byte) (s : State) : (applyAlu op v s).c = s.c := rfl
@[simp] theorem applyAlu_d (op : AluOp) (v : Byte) (s : State) : (applyAlu op v s).d = s.d := rfl
@[simp] theorem applyAlu_e (op : AluOp) (v : Byte) (s : State) : (applyAlu op v s).e = s.e := rfl
@[simp] theorem applyAlu_h (op : AluOp) (v : Byte) (s : State) : (applyAlu op v s).h = s.h := rfl
@[simp] theorem applyAlu_l (op : AluOp) (v : Byte) (s : State) : (applyAlu op v s).l = s.l := rfl
@[simp] theorem applyAlu_sp (op : AluOp) (v : Byte) (s : State) : (applyAlu op v s).sp = s.sp := rfl
@[simp] theorem applyAlu_pc (op : AluOp) (v : Byte) (s : State) : (applyAlu op v s).pc = s.pc := rfl
@[simp] theorem applyAlu_ime (op : AluOp) (v : Byte) (s : State) : (applyAlu op v s).ime = s.ime := rfl
@[simp] theorem applyAlu_imePending (op : AluOp) (v : Byte) (s : State) : (applyAlu op v s).imePending = s.imePending := rfl
@[simp] theorem applyAlu_ie (op : AluOp) (v : Byte) (s : State) : (applyAlu op v s).ie = s.ie := rfl
@[simp] theorem applyAlu_if5 (op : AluOp) (v : Byte) (s : State) : (applyAlu op v s).if5 = s.if5 := rfl
@[simp] theorem applyAlu_runState (op : AluOp) (v : Byte) (s : State) : (applyAlu op v s).runState = s.runState := rfl
@[simp] theorem applyAlu_dmaReg (op : AluOp) (v : Byte) (s : State) : (applyAlu op v s).dmaReg = s.dmaReg := rfl
@[simp] theorem applyAlu_dmaDelay (op : AluOp) (v : Byte) (s : State) : (applyAlu op v s).dmaDelay = s.dmaDelay := rfl
@[simp] theorem applyAlu_dmaSrc (op : AluOp) (v : Byte) (s : State) : (applyAlu op v s).dmaSrc = s.dmaSrc := rfl
@[simp] theorem applyAlu_dmaIndex (op : AluOp) (v : Byte) (s : State) : (applyAlu op v s).dmaIndex = s.dmaIndex := rfl
@[simp] theorem applyAlu_dmaActive (op : AluOp) (v : Byte) (s : State) : (applyAlu op v s).dmaActive = s.dmaActive := rfl
@[simp] theorem applyAlu_fault (op : AluOp) (v : Byte) (s : State) : (applyAlu op v s).fault = s.fault := rfl
@[simp] theorem applyAlu_mem (op : AluOp) (v : Byte) (s : State) : (applyAlu op v s).mem = s.mem := rfl
@[simp] theorem applyAlu_ext (op : AluOp) (v : Byte) (s : State) : (applyAlu op v s).ext = s.ext := rfl
@[simp] theorem applyAlu_extCalls (op : AluOp) (v : Byte) (s : State) : (applyAlu op v s).extCalls = s.extCalls := rfl
@[simp] theorem applyAlu_periph (op : AluOp) (v : Byte) (s : State) : (applyAlu op v s).periph = s.periph := rfl
@[simp] theorem applyAlu_draws (op : AluOp) (v : Byte) (s : State) : (applyAlu op v s).draws = s.draws := rfl
@[simp] theorem applyAlu_opPc (op : AluOp) (v : Byte) (s : State) : (applyAlu op v s).opPc = s.opPc := rfl
@[simp] theorem applyAlu_cfg (op : AluOp) (v : Byte) (s : State) : (applyAlu op v s).cfg = s.cfg := rfl

/-! ### drawn -/

@[simp] theorem drawn_a (s : State) : (drawn s).a = s.a := rfl
@[simp] theorem drawn_b (s : State) : (drawn s).b = s.b := rfl
@[simp] theorem drawn_c (s : State) : (drawn s).c = s.c := rfl
@[simp] theorem drawn_d (s : State) : (drawn s).d = s.d := rfl
@[simp] theorem drawn_e (s : State) : (drawn s).e = s.e := rfl
@[simp] theorem drawn_h (s : State) : (drawn s).h = s.h := rfl
@[simp] theorem drawn_l (s : State) : (drawn s).l = s.l := rfl
@[simp] theorem drawn_flags (s : State) : (drawn s).flags = s.flags := rfl
@[simp] theorem drawn_sp (s : State) : (drawn s).sp = s.sp := rfl
@[simp] theorem drawn_pc (s : State) : (drawn s).pc = s.pc := rfl
@[simp] theorem drawn_ime (s : State) : (drawn s).ime = s.ime := rfl
@[simp] theorem drawn_imePending (s : State) : (drawn s).imePending = s.imePending := rfl
@[simp] theorem drawn_ie (s : State) : (drawn s).ie = s.ie := rfl
@[simp] theorem drawn_if5 (s : State) : (drawn s).if5 = s.if5 := rfl
@[simp] theorem drawn_runState (s : State) : (drawn s).runState = s.runState := rfl
@[simp] theorem drawn_dmaReg (s : State) : (drawn s).dmaReg = s.dmaReg := rfl
@[simp] theorem drawn_dmaDelay (s : State) : (drawn s).dmaDelay = s.dmaDelay := rfl
@[simp] theorem drawn_dmaSrc (s : State) : (drawn s).dmaSrc = s.dmaSrc := rfl
@[simp] theorem drawn_dmaIndex (s : State) : (drawn s).dmaIndex = s.dmaIndex := rfl
@[simp] theorem drawn_dmaActive (s : State) : (drawn s).dmaActive = s.dmaActive := rfl
@[simp] theorem drawn_fault (s : State) : (drawn s).fault = s.fault := rfl
@[simp] theorem drawn_mem (s : State) : (drawn s).mem = s.mem := rfl
@[simp] theorem drawn_ext (s : State) : (drawn s).ext = s.ext := rfl
@[simp] theorem drawn_extCalls (s : State) : (drawn s).extCalls = s.extCalls := rfl
@[simp] theorem drawn_periph (s : State) : (drawn s).periph = s.periph := rfl
@[simp] theorem drawn_opPc (s : State) : (drawn s).opPc = s.opPc := rfl
@[simp] theorem drawn_cfg (s : State) : (drawn s).cfg = s.cfg := rfl
@[simp] theorem drawn_draws (s : State) : (drawn s).draws = s.draws + 1 := rfl

/-! ### requestInterrupt -/

@[simp] theorem requestInterrupt_a (i : Fin 5) (s : State) : (requestInterrupt i s).a = s.a := rfl
@[simp] theorem requestInterrupt_b (i : Fin 5) (s : State) : (requestInterrupt i s).b = s.b := rfl
@[simp] theorem requestInterrupt_c (i : Fin 5) (s : State) : (requestInterrupt i s).c = s.c := rfl
@[simp] theorem requestInterrupt_d (i : Fin 5) (s : State) : (requestInterrupt i s).d = s.d := rfl
@[simp] theorem requestInterrupt_e (i : Fin 5) (s : State) : (requestInterrupt i s).e = s.e := rfl
@[simp] theorem requestInterrupt_h (i : Fin 5) (s : State) : (requestInterrupt i s).h = s.h := rfl
@[simp] theorem requestInterrupt_l (i : Fin 5) (s : State) : (requestInterrupt i s).l = s.l := rfl
@[simp] theorem requestInterrupt_flags (i : Fin 5) (s : State) : (requestInterrupt i s).flags = s.flags := rfl
@[simp] theorem requestInterrupt_sp (i : Fin 5) (s : State) : (requestInterrupt i s).sp = s.sp := rfl
@[simp] theorem requestInterrupt_pc (i : Fin 5) (s : State) : (requestInterrupt i s).pc = s.pc := rfl
@[simp] theorem requestInterrupt_ime (i : Fin 5) (s : State) : (requestInterrupt i s).ime = s.ime := rfl
@[simp] theorem requestInterrupt_imePending (i : Fin 5) (s : State) : (requestInterrupt i s).imePending = s.imePending := rfl
@[simp] theorem requestInterrupt_ie (i : Fin 5) (s : State) : (requestInterrupt i s).ie = s.ie := rfl
@[simp] theorem requestInterrupt_runState (i : Fin 5) (s : State) : (requestInterrupt i s).runState = s.runState := rfl
@[simp] theorem requestInterrupt_dmaReg (i : Fin 5) (s : State) : (requestInterrupt i s).dmaReg = s.dmaReg := rfl
@[simp] theorem requestInterrupt_dmaDelay (i : Fin 5) (s : State) : (requestInterrupt i s).dmaDelay = s.dmaDelay := rfl
@[simp] theorem requestInterrupt_dmaSrc (i : Fin 5) (s : State) : (requestInterrupt i s).dmaSrc = s.dmaSrc := rfl
@[simp] theorem requestInterrupt_dmaIndex (i : Fin 5) (s : State) : (requestInterrupt i s).dmaIndex = s.dmaIndex := rfl
@[simp] theorem requestInterrupt_dmaActive (i : Fin 5) (s : State) : (requestInterrupt i s).dmaActive = s.dmaActive := rfl
@[simp] theorem requestInterrupt_fault (i : Fin 5) (s : State) : (requestInterrupt i s).fault = s.fault := rfl
@[simp] theorem requestInterrupt_mem (i : Fin 5) (s : State) : (requestInterrupt i s).mem = s.mem := rfl
@[simp] theorem requestInterrupt_ext (i : Fin 5) (s : State) : (requestInterrupt i s).ext = s.ext := rfl
@[simp] theorem requestInterrupt_extCalls (i : Fin 5) (s : State) : (requestInterrupt i s).extCalls = s.extCalls := rfl
@[simp] theorem requestInterrupt_periph (i : Fin 5) (s : State) : (requestInterrupt i s).periph = s.periph := rfl
@[simp] theorem requestInterrupt_draws (i : Fin 5) (s : State) : (requestInterrupt i s).draws = s.draws := rfl
@[simp] theorem requestInterrupt_opPc (i : Fin 5) (s : State) : (requestInterrupt i s).opPc = s.opPc := rfl
@[simp] theorem requestInterrupt_cfg (i : Fin 5) (s : State) : (requestInterrupt i s).cfg = s.cfg := rfl
@[simp] theorem requestInterrupt_if5 (i : Fin 5) (s : State) : (requestInterrupt i s).if5 = s.if5 ||| sourceBit i := rfl

/-! ### acceptInterrupt -/

@[simp] theorem acceptInterrupt_a (i : Fin 5) (s : State) : (acceptInterrupt i s).a = s.a := rfl
@[simp] theorem acceptInterrupt_b (i : Fin 5) (s : State) : (acceptInterrupt i s).b = s.b := rfl
@[simp] theorem acceptInterrupt_c (i : Fin 5) (s : State) : (acceptInterrupt i s).c = s.c := rfl
@[simp] theorem acceptInterrupt_d (i : Fin 5) (s : State) : (acceptInterrupt i s).d = s.d := rfl
@[simp] theorem acceptInterrupt_e (i : Fin 5) (s : State) : (acceptInterrupt i s).e = s.e := rfl
@[simp] theorem acceptInterrupt_h (i : Fin 5) (s : State) : (acceptInterrupt i s).h = s.h := rfl
@[simp] theorem acceptInterrupt_l (i : Fin 5) (s : State) : (acceptInterrupt i s).l = s.l := rfl
@[simp] theorem acceptInterrupt_flags (i : Fin 5) (s : State) : (acceptInterrupt i s).flags = s.flags := rfl
@[simp] theorem acceptInterrupt_sp (i : Fin 5) (s : State) : (acceptInterrupt i s).sp = s.sp := rfl
@[simp] theorem acceptInterrupt_pc (i : Fin 5) (s : State) : (acceptInterrupt i s).pc = s.pc := rfl
@[simp] theorem acceptInterrupt_imePending (i : Fin 5) (s : State) : (acceptInterrupt i s).imePending = s.imePending := rfl
@[simp] theorem acceptInterrupt_ie (i : Fin 5) (s : State) : (acceptInterrupt i s).ie = s.ie := rfl
@[simp] theorem acceptInterrupt_dmaReg (i : Fin 5) (s : State) : (acceptInterrupt i s).dmaReg = s.dmaReg := rfl
@[simp] theorem acceptInterrupt_dmaDelay (i : Fin 5) (s : State) : (acceptInterrupt i s).dmaDelay = s.dmaDelay := rfl
@[simp] theorem acceptInterrupt_dmaSrc (i : Fin 5) (s : State) : (acceptInterrupt i s).dmaSrc = s.dmaSrc := rfl
@[simp] theorem acceptInterrupt_dmaIndex (i : Fin 5) (s : State) : (acceptInterrupt i s).dmaIndex = s.dmaIndex := rfl
@[simp] theorem acceptInterrupt_dmaActive (i : Fin 5) (s : State) : (acceptInterrupt i s).dmaActive = s.dmaActive := rfl
@[simp] theorem acceptInterrupt_fault (i : Fin 5) (s : State) : (acceptInterrupt i s).fault = s.fault := rfl
@[simp] theorem acceptInterrupt_mem (i : Fin 5) (s : State) : (acceptInterrupt i s).mem = s.mem := rfl
@[simp] theorem acceptInterrupt_ext (i : Fin 5) (s : State) : (acceptInterrupt i s).ext = s.ext := rfl
@[simp] theorem acceptInterrupt_extCalls (i : Fin 5) (s : State) : (acceptInterrupt i s).extCalls = s.extCalls := rfl
@[simp] theorem acceptInterrupt_periph (i : Fin 5) (s : State) : (acceptInterrupt i s).periph = s.periph := rfl
@[simp] theorem acceptInterrupt_draws (i : Fin 5) (s : State) : (acceptInterrupt i s).draws = s.draws := rfl
@[simp] theorem acceptInterrupt_opPc (i : Fin 5) (s : State) : (acceptInterrupt i s).opPc = s.opPc := rfl
@[simp] theorem acceptInterrupt_cfg (i : Fin 5) (s : State) : (acceptInterrupt i s).cfg = s.cfg := rfl
@[simp] theorem acceptInterrupt_ime (i : Fin 5) (s : State) : (acceptInterrupt i s).ime = false := rfl
@[simp] theorem acceptInterrupt_if5 (i : Fin 5) (s : State) : (acceptInterrupt i s).if5 = s.if5 &&& ~~~sourceBit i := rfl
@[simp] theorem acceptInterrupt_runState (i : Fin 5) (s : State) : (acceptInterrupt i s).runState = .normal := rfl

/-! ### beginInstruction -/

@[simp] theorem beginInstruction_a (s : State) : (beginInstruction s).a = s.a := rfl
@[simp] theorem beginInstruction_b (s : State) : (beginInstruction s).b = s.b := rfl
@[simp] theorem beginInstruction_c (s : State) : (beginInstruction s).c = s.c := rfl
@[simp] theorem beginInstruction_d (s : State) : (beginInstruction s).d = s.d := rfl
@[simp] theorem beginInstruction_e (s : State) : (beginInstruction s).e = s.e := rfl
@[simp] theorem beginInstruction_h (s : State) : (beginInstruction s).h = s.h := rfl
@[simp] theorem beginInstruction_l (s : State) : (beginInstruction s).l = s.l := rfl
@[simp] theorem beginInstruction_flags (s : State) : (beginInstruction s).flags = s.flags := rfl
@[simp] theorem beginInstruction_sp (s : State) : (beginInstruction s).sp = s.sp := rfl
@[simp] theorem beginInstruction_pc (s : State) : (beginInstruction s).pc = s.pc := rfl
@[simp] theorem beginInstruction_ie (s : State) : (beginInstruction s).ie = s.ie := rfl
@[simp] theorem beginInstruction_if5 (s : State) : (beginInstruction s).if5 = s.if5 := rfl
@[simp] theorem beginInstruction_runState (s : State) : (beginInstruction s).runState = s.runState := rfl
@[simp] theorem beginInstruction_dmaReg (s : State) : (beginInstruction s).dmaReg = s.dmaReg := rfl
@[simp] theorem beginInstruction_dmaDelay (s : State) : (beginInstruction s).dmaDelay = s.dmaDelay := rfl
@[simp] theorem beginInstruction_dmaSrc (s : State) : (beginInstruction s).dmaSrc = s.dmaSrc := rfl
@[simp] theorem beginInstruction_dmaIndex (s : State) : (beginInstruction s).dmaIndex = s.dmaIndex := rfl
@[simp] theorem beginInstruction_dmaActive (s : State) : (beginInstruction s).dmaActive = s.dmaActive := rfl
@[simp] theorem beginInstruction_fault (s : State) : (beginInstruction s).fault = s.fault := rfl
@[simp] theorem beginInstruction_mem (s : State) : (beginInstruction s).mem = s.mem := rfl
@[simp] theorem beginInstruction_ext (s : State) : (beginInstruction s).ext = s.ext := rfl
@[simp] theorem beginInstruction_extCalls (s : State) : (beginInstruction s).extCalls = s.extCalls := rfl
@[simp] theorem beginInstruction_periph (s : State) : (beginInstruction s).periph = s.periph := rfl
@[simp] theorem beginInstruction_draws (s : State) : (beginInstruction s).draws = s.draws := rfl
@[simp] theorem beginInstruction_cfg (s : State) : (beginInstruction s).cfg = s.cfg := rfl
@[simp] theorem beginInstruction_ime (s : State) : (beginInstruction s).ime = (s.ime || s.imePending) := rfl
@[simp] theorem beginInstruction_imePending (s : State) : (beginInstruction s).imePending = false := rfl
@[simp] theorem beginInstruction_opPc (s : State) : (beginInstruction s).opPc = s.pc := rfl

/-! ### endHaltBug -/

@[simp] theorem endHaltBug_a (bug : Bool) (s : State) : (endHaltBug bug s).a = s.a := by cases bug <;> rfl
@[simp] theorem endHaltBug_b (bug : Bool) (s : State) : (endHaltBug bug s).b = s.b := by cases bug <;> rfl
@[simp] theorem endHaltBug_c (bug : Bool) (s : State) : (endHaltBug bug s).c = s.c := by cases bug <;> rfl
@[simp] theorem endHaltBug_d (bug : Bool) (s : State) : (endHaltBug bug s).d = s.d := by cases bug <;> rfl
@[simp] theorem endHaltBug_e (bug : Bool) (s : State) : (endHaltBug bug s).e = s.e := by cases bug <;> rfl
@[simp] theorem endHaltBug_h (bug : Bool) (s : State) : (endHaltBug bug s).h = s.h := by cases bug <;> rfl
@[simp] theorem endHaltBug_l (bug : Bool) (s : State) : (endHaltBug bug s).l = s.l := by cases bug <;> rfl
@[simp] theorem endHaltBug_flags (bug : Bool) (s : State) : (endHaltBug bug s).flags = s.flags := by cases bug <;> rfl
@[simp] theorem endHaltBug_sp (bug : Bool) (s : State) : (endHaltBug bug s).sp = s.sp := by cases bug <;> rfl
@[simp] theorem endHaltBug_pc (bug : Bool) (s : State) : (endHaltBug bug s).pc = s.pc := by cases bug <;> rfl
@[simp] theorem endHaltBug_ime (bug : Bool) (s : State) : (endHaltBug bug s).ime = s.ime := by cases bug <;> rfl
@[simp] theorem endHaltBug_imePending (bug : Bool) (s : State) : (endHaltBug bug s).imePending = s.imePending := by cases bug <;> rfl
@[simp] theorem endHaltBug_ie (bug : Bool) (s : State) : (endHaltBug bug s).ie = s.ie := by cases bug <;> rfl
@[simp] theorem endHaltBug_if5 (bug : Bool) (s : State) : (endHaltBug bug s).if5 = s.if5 := by cases bug <;> rfl
@[simp] theorem endHaltBug_dmaReg (bug : Bool) (s : State) : (endHaltBug bug s).dmaReg = s.dmaReg := by cases bug <;> rfl
@[simp] theorem endHaltBug_dmaDelay (bug : Bool) (s : State) : (endHaltBug bug s).dmaDelay = s.dmaDelay := by cases bug <;> rfl
@[simp] theorem endHaltBug_dmaSrc (bug : Bool) (s : State) : (endHaltBug bug s).dmaSrc = s.dmaSrc := by cases bug <;> rfl
@[simp] theorem endHaltBug_dmaIndex (bug : Bool) (s : State) : (endHaltBug bug s).dmaIndex = s.dmaIndex := by cases bug <;> rfl
@[simp] theorem endHaltBug_dmaActive (bug : Bool) (s : State) : (endHaltBug bug s).dmaActive = s.dmaActive := by cases bug <;> rfl
@[simp] theorem endHaltBug_fault (bug : Bool) (s : State) : (endHaltBug bug s).fault = s.fault := by cases bug <;> rfl
@[simp] theorem endHaltBug_mem (bug : Bool) (s : State) : (endHaltBug bug s).mem = s.mem := by cases bug <;> rfl
@[simp] theorem endHaltBug_ext (bug : Bool) (s : State) : (endHaltBug bug s).ext = s.ext := by cases bug <;> rfl
@[simp] theorem endHaltBug_extCalls (bug : Bool) (s : State) : (endHaltBug bug s).extCalls = s.extCalls := by cases bug <;> rfl
@[simp] theorem endHaltBug_periph (bug : Bool) (s : State) : (endHaltBug bug s).periph = s.periph := by cases bug <;> rfl
@[simp] theorem endHaltBug_draws (bug : Bool) (s : State) : (endHaltBug bug s).draws = s.draws := by cases bug <;> rfl
@[simp] theorem endHaltBug_opPc (bug : Bool) (s : State) : (endHaltBug bug s).opPc = s.opPc := by cases bug <;> rfl
@[simp] theorem endHaltBug_cfg (bug : Bool) (s : State) : (endHaltBug bug s).cfg = s.cfg := by cases bug <;> rfl

/-! ### wake -/

@[simp] theorem wake_a (s : State) : (wake s).a = s.a := rfl
@[simp] theorem wake_b (s : State) : (wake s).b = s.b := rfl
@[simp] theorem wake_c (s : State) : (wake s).c = s.c := rfl
@[simp] theorem wake_d (s : State) : (wake s).d = s.d := rfl
@[simp] theorem wake_e (s : State) : (wake s).e = s.e := rfl
@[simp] theorem wake_h (s : State) : (wake s).h = s.h := rfl
@[simp] theorem wake_l (s : State) : (wake s).l = s.l := rfl
@[simp] theorem wake_flags (s : State) : (wake s).flags = s.flags := rfl
@[simp] theorem wake_sp (s : State) : (wake s).sp = s.sp := rfl
@[simp] theorem wake_pc (s : State) : (wake s).pc = s.pc := rfl
@[simp] theorem wake_ime (s : State) : (wake s).ime = s.ime := rfl
@[simp] theorem wake_imePending (s : State) : (wake s).imePending = s.imePending := rfl
@[simp] theorem wake_ie (s : State) : (wake s).ie = s.ie := rfl
@[simp] theorem wake_if5 (s : State) : (wake s).if5 = s.if5 := rfl
@[simp] theorem wake_dmaReg (s : State) : (wake s).dmaReg = s.dmaReg := rfl
@[simp] theorem wake_dmaDelay (s : State) : (wake s).dmaDelay = s.dmaDelay := rfl
@[simp] theorem wake_dmaSrc (s : State) : (wake s).dmaSrc = s.dmaSrc := rfl
@[simp] theorem wake_dmaIndex (s : State) : (wake s).dmaIndex = s.dmaIndex := rfl
@[simp] theorem wake_dmaActive (s : State) : (wake s).dmaActive = s.dmaActive := rfl
@[simp] theorem wake_fault (s : State) : (wake s).fault = s.fault := rfl
@[simp] theorem wake_mem (s : State) : (wake s).mem = s.mem := rfl
@[simp] theorem wake_ext (s : State) : (wake s).ext = s.ext := rfl
@[simp] theorem wake_extCalls (s : State) : (wake s).extCalls = s.extCalls := rfl
@[simp] theorem wake_periph (s : State) : (wake s).periph = s.periph := rfl
@[simp] theorem wake_draws (s : State) : (wake s).draws = s.draws := rfl
@[simp] theorem wake_opPc (s : State) : (wake s).opPc = s.opPc := rfl
@[simp] theorem wake_cfg (s : State) : (wake s).cfg = s.cfg := rfl
@[simp] theorem wake_runState (s : State) : (wake s).runState = .normal := rfl

/-! ### dmaCopied -/

@[simp] theorem dmaCopied_a (s : State) : (dmaCopied s).a = s.a := by unfold dmaCopied; split <;> rfl
@[simp] theorem dmaCopied_b (s : State) : (dmaCopied s).b = s.b := by unfold dmaCopied; split <;> rfl
@[simp] theorem dmaCopied_c (s : State) : (dmaCopied s).c = s.c := by unfold dmaCopied; split <;> rfl
@[simp] theorem dmaCopied_d (s : State) : (dmaCopied s).d = s.d := by unfold dmaCopied; split <;> rfl
@[simp] theorem dmaCopied_e (s : State) : (dmaCopied s).e = s.e := by unfold dmaCopied; split <;> rfl
@[simp] theorem dmaCopied_h (s : State) : (dmaCopied s).h = s.h := by unfold dmaCopied; split <;> rfl
@[simp] theorem dmaCopied_l (s : State) : (dmaCopied s).l = s.l := by unfold dmaCopied; split <;> rfl
@[simp] theorem dmaCopied_flags (s : State) : (dmaCopied s).flags = s.flags := by unfold dmaCopied; split <;> rfl
@[simp] theorem dmaCopied_sp (s : State) : (dmaCopied s).sp = s.sp := by unfold dmaCopied; split <;> rfl
@[simp] theorem dmaCopied_pc (s : State) : (dmaCopied s).pc = s.pc := by unfold dmaCopied; split <;> rfl
@[simp] theorem dmaCopied_ime (s : State) : (dmaCopied s).ime = s.ime := by unfold dmaCopied; split <;> rfl
@[simp] theorem dmaCopied_imePending (s : State) : (dmaCopied s).imePending = s.imePending := by unfold dmaCopied; split <;> rfl
@[simp] theorem dmaCopied_ie (s : State) : (dmaCopied s).ie = s.ie := by unfold dmaCopied; split <;> rfl
@[simp] theorem dmaCopied_if5 (s : State) : (dmaCopied s).if5 = s.if5 := by unfold dmaCopied; split <;> rfl
@[simp] theorem dmaCopied_runState (s : State) : (dmaCopied s).runState = s.runState := by unfold dmaCopied; split <;> rfl
@[simp] theorem dmaCopied_dmaReg (s : State) : (dmaCopied s).dmaReg = s.dmaReg := by unfold dmaCopied; split <;> rfl
@[simp] theorem dmaCopied_dmaDelay (s : State) : (dmaCopied s).dmaDelay = s.dmaDelay := by unfold dmaCopied; split <;> rfl
@[simp] theorem dmaCopied_dmaSrc (s : State) : (dmaCopied s).dmaSrc = s.dmaSrc := by unfold dmaCopied; split <;> rfl
@[simp] theorem dmaCopied_fault (s : State) : (dmaCopied s).fault = s.fault := by unfold dmaCopied; split <;> rfl
@[simp] theorem dmaCopied_mem (s : State) : (dmaCopied s).mem = s.mem := by unfold dmaCopied; split <;> rfl
@[simp] theorem dmaCopied_ext (s : State) : (dmaCopied s).ext = s.ext := by unfold dmaCopied; split <;> rfl
@[simp] theorem dmaCopied_extCalls (s : State) : (dmaCopied s).extCalls = s.extCalls := by unfold dmaCopied; split <;> rfl
@[simp] theorem dmaCopied_periph (s : State) : (dmaCopied s).periph = s.periph := by unfold dmaCopied; split <;> rfl
@[simp] theorem dmaCopied_draws (s : State) : (dmaCopied s).draws = s.draws := by unfold dmaCopied; split <;> rfl
@[simp] theorem dmaCopied_opPc (s : State) : (dmaCopied s).opPc = s.opPc := by unfold dmaCopied; split <;> rfl
@[simp] theorem dmaCopied_cfg (s : State) : (dmaCopied s).cfg = s.cfg := by unfold dmaCopied; split <;> rfl

/-! ### dmaCountDown -/

@[simp] theorem dmaCountDown_a (s : State) : (dmaCountDown s).a = s.a := by unfold dmaCountDown; split <;> (try split) <;> rfl
@[simp] theorem dmaCountDown_b (s : State) : (dmaCountDown s).b = s.b := by unfold dmaCountDown; split <;> (try split) <;> rfl
@[simp] theorem dmaCountDown_c (s : State) : (dmaCountDown s).c = s.c := by unfold dmaCountDown; split <;> (try split) <;> rfl
@[simp] theorem dmaCountDown_d (s : State) : (dmaCountDown s).d = s.d := by unfold dmaCountDown; split <;> (try split) <;> rfl
@[simp] theorem dmaCountDown_e (s : State) : (dmaCountDown s).e = s.e := by unfold dmaCountDown; split <;> (try split) <;> rfl
@[simp] theorem dmaCountDown_h (s : State) : (dmaCountDown s).h = s.h := by unfold dmaCountDown; split <;> (try split) <;> rfl
@[simp] theorem dmaCountDown_l (s : State) : (dmaCountDown s).l = s.l := by unfold dmaCountDown; split <;> (try split) <;> rfl
@[simp] theorem dmaCountDown_flags (s : State) : (dmaCountDown s).flags = s.flags := by unfold dmaCountDown; split <;> (try split) <;> rfl
@[simp] theorem dmaCountDown_sp (s : State) : (dmaCountDown s).sp = s.sp := by unfold dmaCountDown; split <;> (try split) <;> rfl
@[simp] theorem dmaCountDown_pc (s : State) : (dmaCountDown s).pc = s.pc := by unfold dmaCountDown; split <;> (try split) <;> rfl
@[simp] theorem dmaCountDown_ime (s : State) : (dmaCountDown s).ime = s.ime := by unfold dmaCountDown; split <;> (try split) <;> rfl
@[simp] theorem dmaCountDown_imePending (s : State) : (dmaCountDown s).imePending = s.imePending := by unfold dmaCountDown; split <;> (try split) <;> rfl
@[simp] theorem dmaCountDown_ie (s : State) : (dmaCountDown s).ie = s.ie := by unfold dmaCountDown; split <;> (try split) <;> rfl
@[simp] theorem dmaCountDown_if5 (s : State) : (dmaCountDown s).if5 = s.if5 := by unfold dmaCountDown; split <;> (try split) <;> rfl
@[simp] theorem dmaCountDown_runState (s : State) : (dmaCountDown s).runState = s.runState := by unfold dmaCountDown; split <;> (try split) <;> rfl
@[simp] theorem dmaCountDown_dmaReg (s : State) : (dmaCountDown s).dmaReg = s.dmaReg := by unfold dmaCountDown; split <;> (try split) <;> rfl
@[simp] theorem dmaCountDown_fault (s : State) : (dmaCountDown s).fault = s.fault := by unfold dmaCountDown; split <;> (try split) <;> rfl
@[simp] theorem dmaCountDown_mem (s : State) : (dmaCountDown s).mem = s.mem := by unfold dmaCountDown; split <;> (try split) <;> rfl
@[simp] theorem dmaCountDown_ext (s : State) : (dmaCountDown s).ext = s.ext := by unfold dmaCountDown; split <;> (try split) <;> rfl
@[simp] theorem dmaCountDown_extCalls (s : State) : (dmaCountDown s).extCalls = s.extCalls := by unfold dmaCountDown; split <;> (try split) <;> rfl
@[simp] theorem dmaCountDown_periph (s : State) : (dmaCountDown s).periph = s.periph := by unfold dmaCountDown; split <;> (try split) <;> rfl
@[simp] theorem dmaCountDown_draws (s : State) : (dmaCountDown s).draws = s.draws := by unfold dmaCountDown; split <;> (try split) <;> rfl
@[simp] theorem dmaCountDown_opPc (s : State) : (dmaCountDown s).opPc = s.opPc := by unfold dmaCountDown; split <;> (try split) <;> rfl
@[simp] theorem dmaCountDown_cfg (s : State) : (dmaCountDown s).cfg = s.cfg := by unfold dmaCountDown; split <;> (try split) <;> rfl

/-! ### afterRead -/

@[simp] theorem afterRead_a (x : Word) (s : State) : (afterRead x s).a = s.a := by unfold afterRead; split <;> rfl
@[simp] theorem afterRead_b (x : Word) (s : State) : (afterRead x s).b = s.b := by unfold afterRead; split <;> rfl
@[simp] theorem afterRead_c (x : Word) (s : State) : (afterRead x s).c = s.c := by unfold afterRead; split <;> rfl
@[simp] theorem afterRead_d (x : Word) (s : State) : (afterRead x s).d = s.d := by unfold afterRead; split <;> rfl
@[simp] theorem afterRead_e (x : Word) (s : State) : (afterRead x s).e = s.e := by unfold afterRead; split <;> rfl
@[simp] theorem afterRead_h (x : Word) (s : State) : (afterRead x s).h = s.h := by unfold afterRead; split <;> rfl
@[simp] theorem afterRead_l (x : Word) (s : State) : (afterRead x s).l = s.l := by unfold afterRead; split <;> rfl
@[simp] theorem afterRead_flags (x : Word) (s : State) : (afterRead x s).flags = s.flags := by unfold afterRead; split <;> rfl
@[simp] theorem afterRead_sp (x : Word) (s : State) : (afterRead x s).sp = s.sp := by unfold afterRead; split <;> rfl
@[simp] theorem afterRead_pc (x : Word) (s : State) : (afterRead x s).pc = s.pc := by unfold afterRead; split <;> rfl
@[simp] theorem afterRead_ime (x : Word) (s : State) : (afterRead x s).ime = s.ime := by unfold afterRead; split <;> rfl
@[simp] theorem afterRead_imePending (x : Word) (s : State) : (afterRead x s).imePending = s.imePending := by unfold afterRead; split <;> rfl
@[simp] theorem afterRead_ie (x : Word) (s : State) : (afterRead x s).ie = s.ie := by unfold afterRead; split <;> rfl
@[simp] theorem afterRead_if5 (x : Word) (s : State) : (afterRead x s).if5 = s.if5 := by unfold afterRead; split <;> rfl
@[simp] theorem afterRead_runState (x : Word) (s : State) : (afterRead x s).runState = s.runState := by unfold afterRead; split <;> rfl
@[simp] theorem afterRead_dmaReg (x : Word) (s : State) : (afterRead x s).dmaReg = s.dmaReg := by unfold afterRead; split <;> rfl
@[simp] theorem afterRead_dmaDelay (x : Word) (s : State) : (afterRead x s).dmaDelay = s.dmaDelay := by unfold afterRead; split <;> rfl
@[simp] theorem afterRead_dmaSrc (x : Word) (s : State) : (afterRead x s).dmaSrc = s.dmaSrc := by unfold afterRead; split <;> rfl
@[simp] theorem afterRead_dmaIndex (x : Word) (s : State) : (afterRead x s).dmaIndex = s.dmaIndex := by unfold afterRead; split <;> rfl
@[simp] theorem afterRead_dmaActive (x : Word) (s : State) : (afterRead x s).dmaActive = s.dmaActive := by unfold afterRead; split <;> rfl
@[simp] theorem afterRead_fault (x : Word) (s : State) : (afterRead x s).fault = s.fault := by unfold afterRead; split <;> rfl
@[simp] theorem afterRead_mem (x : Word) (s : State) : (afterRead x s).mem = s.mem := by unfold afterRead; split <;> rfl
@[simp] theorem afterRead_ext (x : Word) (s : State) : (afterRead x s).ext = s.ext := by unfold afterRead; split <;> rfl
@[simp] theorem afterRead_extCalls (x : Word) (s : State) : (afterRead x s).extCalls = s.extCalls := by unfold afterRead; split <;> rfl
@[simp] theorem afterRead_draws (x : Word) (s : State) : (afterRead x s).draws = s.draws := by unfold afterRead; split <;> rfl
@[simp] theorem afterRead_opPc (x : Word) (s : State) : (afterRead x s).opPc = s.opPc := by unfold afterRead; split <;> rfl
@[simp] theorem afterRead_cfg (x : Word) (s : State) : (afterRead x s).cfg = s.cfg := by unfold afterRead; split <;> rfl

/-! ### cpuRegWrite -/

@[simp] theorem cpuRegWrite_a (x : Word) (v : Byte) (s : State) : (cpuRegWrite x v s).a = s.a := by unfold cpuRegWrite; split <;> (try split) <;> rfl
@[simp] theorem cpuRegWrite_b (x : Word) (v : Byte) (s : State) : (cpuRegWrite x v s).b = s.b := by unfold cpuRegWrite; split <;> (try split) <;> rfl
@[simp] theorem cpuRegWrite_c (x : Word) (v : Byte) (s : State) : (cpuRegWrite x v s).c = s.c := by unfold cpuRegWrite; split <;> (try split) <;> rfl
@[simp] theorem cpuRegWrite_d (x : Word) (v : Byte) (s : State) : (cpuRegWrite x v s).d = s.d := by unfold cpuRegWrite; split <;> (try split) <;> rfl
@[simp] theorem cpuRegWrite_e (x : Word) (v : Byte) (s : State) : (cpuRegWrite x v s).e = s.e := by unfold cpuRegWrite; split <;> (try split) <;> rfl
@[simp] theorem cpuRegWrite_h (x : Word) (v : Byte) (s : State) : (cpuRegWrite x v s).h = s.h := by unfold cpuRegWrite; split <;> (try split) <;> rfl
@[simp] theorem cpuRegWrite_l (x : Word) (v : Byte) (s : State) : (cpuRegWrite x v s).l = s.l := by unfold cpuRegWrite; split <;> (try split) <;> rfl
@[simp] theorem cpuRegWrite_flags (x : Word) (v : Byte) (s : State) : (cpuRegWrite x v s).flags = s.flags := by unfold cpuRegWrite; split <;> (try split) <;> rfl
@[simp] theorem cpuRegWrite_sp (x : Word) (v : Byte) (s : State) : (cpuRegWrite x v s).sp = s.sp := by unfold cpuRegWrite; split <;> (try split) <;> rfl
@[simp] theorem cpuRegWrite_pc (x : Word) (v : Byte) (s : State) : (cpuRegWrite x v s).pc = s.pc := by unfold cpuRegWrite; split <;> (try split) <;> rfl
@[simp] theorem cpuRegWrite_ime (x : Word) (v : Byte) (s : State) : (cpuRegWrite x v s).ime = s.ime := by unfold cpuRegWrite; split <;> (try split) <;> rfl
@[simp] theorem cpuRegWrite_imePending (x : Word) (v : Byte) (s : State) : (cpuRegWrite x v s).imePending = s.imePending := by unfold cpuRegWrite; split <;> (try split) <;> rfl
@[simp] theorem cpuRegWrite_runState (x : Word) (v : Byte) (s : State) : (cpuRegWrite x v s).runState = s.runState := by unfold cpuRegWrite; split <;> (try split) <;> rfl
@[simp] theorem cpuRegWrite_dmaSrc (x : Word) (v : Byte) (s : State) : (cpuRegWrite x v s).dmaSrc = s.dmaSrc := by unfold cpuRegWrite; split <;> (try split) <;> rfl
@[simp] theorem cpuRegWrite_dmaIndex (x : Word) (v : Byte) (s : State) : (cpuRegWrite x v s).dmaIndex = s.dmaIndex := by unfold cpuRegWrite; split <;> (try split) <;> rfl
@[simp] theorem cpuRegWrite_dmaActive (x : Word) (v : Byte) (s : State) : (cpuRegWrite x v s).dmaActive = s.dmaActive := by unfold cpuRegWrite; split <;> (try split) <;> rfl
@[simp] theorem cpuRegWrite_fault (x : Word) (v : Byte) (s : State) : (cpuRegWrite x v s).fault = s.fault := by unfold cpuRegWrite; split <;> (try split) <;> rfl
@[simp] theorem cpuRegWrite_mem (x : Word) (v : Byte) (s : State) : (cpuRegWrite x v s).mem = s.mem := by unfold cpuRegWrite; split <;> (try split) <;> rfl
@[simp] theorem cpuRegWrite_ext (x : Word) (v : Byte) (s : State) : (cpuRegWrite x v s).ext = s.ext := by unfold cpuRegWrite; split <;> (try split) <;> rfl
@[simp] theorem cpuRegWrite_extCalls (x : Word) (v : Byte) (s : State) : (cpuRegWrite x v s).extCalls = s.extCalls := by unfold cpuRegWrite; split <;> (try split) <;> rfl
@[simp] theorem cpuRegWrite_periph (x : Word) (v : Byte) (s : State) : (cpuRegWrite x v s).periph = s.periph := by unfold cpuRegWrite; split <;> (try split) <;> rfl
@[simp] theorem cpuRegWrite_draws (x : Word) (v : Byte) (s : State) : (cpuRegWrite x v s).draws = s.draws := by unfold cpuRegWrite; split <;> (try split) <;> rfl
@[simp] theorem cpuRegWrite_opPc (x : Word) (v : Byte) (s : State) : (cpuRegWrite x v s).opPc = s.opPc := by unfold cpuRegWrite; split <;> (try split) <;> rfl
@[simp] theorem cpuRegWrite_cfg (x : Word) (v : Byte) (s : State) : (cpuRegWrite x v s).cfg = s.cfg := by unfold cpuRegWrite; split <;> (try split) <;> rfl

/-! ### Words and their bytes -/

@[simp] theorem hiByte_append (h l : Byte) : hiByte (h ++ l) = h := by
  apply BitVec.eq_of_getLsbD_eq
  intro i hi
  rw [hiByte, BitVec.getLsbD_extractLsb', BitVec.getLsbD_append]
  simp [hi]

@[simp] theorem loByte_append (h l : Byte) : loByte (h ++ l) = l := by
  apply BitVec.eq_of_getLsbD_eq
  intro i hi
  rw [loByte, BitVec.getLsbD_extractLsb', BitVec.getLsbD_append]
  simp [hi]

@[simp] theorem hiByte_loByte (v : Word) : (hiByte v ++ loByte v : Word) = v := by
  apply BitVec.eq_of_getLsbD_eq
  intro i hi
  simp only [hiByte, loByte, BitVec.getLsbD_append, BitVec.getLsbD_extractLsb']
  by_cases h : i < 8
  · simp [h]
  · simp [h, show i - 8 < 8 by omega, show 8 + (i - 8) = i by omega]

/-- The flags read back from their byte (R33). -/
@[simp] theorem ofByte_toByte (f : Flags) : Flags.ofByte f.toByte = f := by
  rcases f with ⟨z, n, h, c⟩
  cases z <;> cases n <;> cases h <;> cases c <;> rfl

/-- A write of F keeps the top four bits and clears the rest (R33). -/
theorem toByte_ofByte (v : Byte) : (Flags.ofByte v).toByte = v &&& 0xF0 := by
  revert v; decide

/-! ### Register pairs (R31) -/

@[simp] theorem setBc_bc (v : Word) (s : State) : (s.setBc v).bc = v := hiByte_loByte v
@[simp] theorem setDe_de (v : Word) (s : State) : (s.setDe v).de = v := hiByte_loByte v
@[simp] theorem setHl_hl (v : Word) (s : State) : (s.setHl v).hl = v := hiByte_loByte v
@[simp] theorem setPair_pair (p : RegDd) (v : Word) (s : State) : (s.setPair p v).pair p = v := by
  cases p <;> simp [State.setPair, State.pair]

/-! ### Single registers (R13) -/

@[simp] theorem reg_setReg (r : Reg8) (v : Byte) (s : State) : (s.setReg r v).reg r = v := by cases r <;> rfl

theorem reg_setReg_ne {r r' : Reg8} (h : r' ≠ r) (v : Byte) (s : State) : (s.setReg r v).reg r' = s.reg r' := by
  cases r <;> cases r' <;> first | rfl | exact absurd rfl h

end Sys2Proof.Machine
end

