-- ==== Sys2Proof/Laws/Bus.lean ====
section
/-! SUPPORT. What the bus operations can do, said once: inversion of a sequence, the closure of a property under
every bus operation, and from it what a machine cycle leaves alone, what it keeps and when it cannot fault. -/

namespace Sys2Proof.Machine

/-! ### Sequences -/

@[simp] theorem bind_ok {α β : Type} (v : α) (s : State) (f : α → State → Res β) :
    (Res.ok v s).bind f = f v s := rfl

@[simp] theorem bind_fault {α β : Type} (k : FaultKind) (s : State) (f : α → State → Res β) :
    (Res.fault k s : Res α).bind f = .fault k s := rfl

@[simp] theorem out_ok (v : Unit) (s : State) : (Res.ok v s).out = .next s := rfl

@[simp] theorem out_fault (k : FaultKind) (s : State) : (Res.fault k s : Res Unit).out = .fault (Fault.of k s) := rfl

/-- A sequence that ends well: its first part did, and so did the rest. -/
theorem bind_eq_ok {α β : Type} {r : Res α} {f : α → State → Res β} {v : β} {t : State} :
    r.bind f = .ok v t ↔ ∃ u s1, r = .ok u s1 ∧ f u s1 = .ok v t := by
  cases r with
  | ok u s1 => exact ⟨fun h => ⟨u, s1, rfl, h⟩, fun ⟨_, _, e, h⟩ => by injection e with e1 e2; subst e1 e2; exact h⟩
  | fault k s1 => exact ⟨fun h => Res.noConfusion rfl (heq_of_eq h), fun ⟨_, _, e, _⟩ => Res.noConfusion rfl (heq_of_eq e)⟩

/-- The outcome of a sequence is a next state exactly where the sequence ends well. -/
theorem out_eq_next {r : Res Unit} {t : State} : r.out = .next t ↔ r = .ok () t := by
  cases r with
  | ok v s =>
    exact ⟨fun h => by cases h; rfl, fun h => by cases h; rfl⟩
  | fault k s => exact ⟨fun h => (nomatch h), fun h => (nomatch h)⟩

/-! ### Properties that every bus operation keeps -/

/-- The state an operation leaves, after a value or a fault, has `P`. -/
def Res.All {α : Type} (P : State → Prop) (r : Res α) : Prop :=
  match r with
  | .ok _ s => P s
  | .fault _ s => P s

theorem Res.All.bind {α β : Type} {P : State → Prop} {r : Res α} {f : α → State → Res β} (h : r.All P)
    (hf : ∀ v s1, r = .ok v s1 → P s1 → (f v s1).All P) : (r.bind f).All P := by
  cases r with
  | ok v s1 => exact hf v s1 rfl h
  | fault k s1 => exact h

theorem Res.All.of_ok {α : Type} {P : State → Prop} {r : Res α} {v : α} {t : State} (h : r.All P)
    (e : r = .ok v t) : P t := by subst e; exact h

theorem Res.All.of_fault {α : Type} {P : State → Prop} {r : Res α} {k : FaultKind} {t : State} (h : r.All P)
    (e : r = .fault k t) : P t := by subst e; exact h

/-- `P` is kept by everything the router, the DMA step and a callback event do. -/
structure RouterClosed (P : State → Prop) : Prop where
  draw : ∀ s, P s → P (drawn s)
  device : ∀ s p, P s → P { s with periph := p }
  reg : ∀ a v s, P s → P (cpuRegWrite a v s)
  ram : ∀ (a : Word) v s, P s → P { s with mem := Mem.write s.mem a.toNat v }
  copied : ∀ s, s.dmaActive = true → P s → P (dmaCopied s)
  count : ∀ s, P s → P (dmaCountDown s)
  request : ∀ i s, P s → P (requestInterrupt i s)

/-- `P` is kept by a whole machine cycle: also by taking the next entry of the callback's first calls, and by
counting one past them. -/
structure CycleClosed (P : State → Prop) : Prop extends RouterClosed P where
  pull : ∀ s evs rest, s.ext = evs :: rest → P s → P { s with ext := rest }
  called : ∀ s k, P s → P { s with extCalls := k }

/-- A store by the router changes what a CPU register write, a RAM write or a peripheral changes. -/
theorem poke_cases {a : Word} {v : Byte} {s t : State} (h : poke a v s = some t) :
    t = cpuRegWrite a v s ∨ t = { s with mem := Mem.write s.mem a.toNat v } ∨
      ∃ p, t = { s with periph := p } := by
  unfold poke at h
  split at h
  · exact nomatch h
  · exact .inl (Option.some.inj h).symm
  · exact .inr (.inl (Option.some.inj h).symm)
  · exact .inr (.inr ⟨_, (Option.some.inj h).symm⟩)

theorem poke_dmaActive {a : Word} {v : Byte} {s t : State} (h : poke a v s = some t) :
    t.dmaActive = s.dmaActive := by
  obtain rfl | rfl | ⟨p, rfl⟩ := poke_cases h
  · exact cpuRegWrite_dmaActive a v s
  · rfl
  · rfl

variable {P : State → Prop}

theorem RouterClosed.poke (hP : RouterClosed P) {a : Word} {v : Byte} {s t : State} (h : P s)
    (e : Machine.poke a v s = some t) : P t := by
  obtain rfl | rfl | ⟨p, rfl⟩ := poke_cases e
  · exact hP.reg _ _ _ h
  · exact hP.ram _ _ _ h
  · exact hP.device _ _ h

theorem RouterClosed.afterRead (hP : RouterClosed P) (a : Word) {s : State} (h : P s) : P (afterRead a s) := by
  unfold Machine.afterRead
  split
  · exact hP.device _ _ h
  all_goals exact h

theorem RouterClosed.routerRead (hP : RouterClosed P) (a : Word) {s : State} (h : P s) :
    (routerRead a s).All P := by
  unfold Machine.routerRead
  split
  · exact h
  · exact hP.afterRead a h

theorem RouterClosed.routerWrite (hP : RouterClosed P) (a : Word) (v : Byte) {s : State} (h : P s) :
    (routerWrite a v s).All P := by
  unfold Machine.routerWrite
  split
  · exact h
  · exact hP.poke h ‹_›

theorem routerRead_dmaActive {a : Word} {s t : State} {v : Byte} (h : routerRead a s = .ok v t) :
    t.dmaActive = s.dmaActive := by
  unfold routerRead at h
  split at h
  · exact nomatch h
  · cases h; exact afterRead_dmaActive a s

theorem routerWrite_dmaActive {a : Word} {v : Byte} {s t : State} (h : routerWrite a v s = .ok () t) :
    t.dmaActive = s.dmaActive := by
  unfold routerWrite at h
  split at h
  · exact nomatch h
  · cases h; exact poke_dmaActive ‹_›

theorem RouterClosed.dmaStep (hP : RouterClosed P) {s : State} (h : P s) : (dmaStep s).All P := by
  refine Res.All.bind ?_ fun _ s1 _ h1 => hP.count _ h1
  unfold dmaCopy
  split
  · refine Res.All.bind (hP.routerRead _ h) fun v s1 e1 h1 =>
      Res.All.bind (hP.routerWrite _ v h1) fun _ s2 e2 h2 => ?_
    exact hP.copied _ (by rw [routerWrite_dmaActive e2, routerRead_dmaActive e1]; assumption) h2
  · exact h

theorem RouterClosed.runEvent (hP : RouterClosed P) (ev : ExtEvent) {s : State} (h : P s) :
    (runEvent ev s).All P := by
  cases ev with
  | request i => exact hP.request i s h
  | read a => exact Res.All.bind (hP.routerRead a h) fun _ _ _ h1 => h1
  | write a v => exact Res.All.bind (hP.routerWrite a v h) fun _ _ _ h1 => h1

theorem RouterClosed.runEvents (hP : RouterClosed P) (evs : List ExtEvent) {s : State} (h : P s) :
    (runEvents evs s).All P := by
  induction evs generalizing s with
  | nil => exact h
  | cons ev rest ih => exact Res.All.bind (hP.runEvent ev h) fun _ _ _ h1 => ih h1

theorem RouterClosed.platformCall (hP : RouterClosed P) (n k : Nat) {s : State} (h : P s) :
    (platformCall n k s).All P := by
  induction k generalizing s with
  | zero => exact h
  | succ j ih =>
    refine Res.All.bind (Res.All.bind ?_ fun _ s1 _ h1 => hP.device s1 _ h1) fun _ _ _ h1 => ih h1
    unfold platformEvent
    split
    · exact h
    · exact hP.runEvent _ h

theorem CycleClosed.cycle (hP : CycleClosed P) {s : State} (h : P s) : (cycle s).All P := by
  refine Res.All.bind (hP.dmaStep h) fun _ s1 _ h1 => ?_
  unfold extCycle
  split
  · exact hP.runEvents _ (hP.pull _ _ _ ‹_› h1)
  · split
    · exact h1
    · exact hP.runEvents _ (hP.called _ _ h1)
    · exact hP.platformCall _ _ (hP.called _ _ h1)

theorem RouterClosed.busRead (hP : RouterClosed P) (a : Word) {s : State} (h : P s) : (busRead a s).All P := by
  unfold Machine.busRead
  split
  · exact hP.routerRead a h
  · exact hP.draw _ h

theorem RouterClosed.busWrite (hP : RouterClosed P) (a : Word) (v : Byte) {s : State} (h : P s) :
    (busWrite a v s).All P := by
  unfold Machine.busWrite
  split
  · exact hP.routerWrite a v h
  · split
    · exact hP.routerWrite a v (hP.draw _ h)
    · exact hP.draw _ h

theorem CycleClosed.memRead (hP : CycleClosed P) (a : Word) {s : State} (h : P s) : (memRead a s).All P :=
  Res.All.bind (hP.busRead a h) fun _ _ _ h1 => Res.All.bind (hP.cycle h1) fun _ _ _ h2 => h2

theorem CycleClosed.memWrite (hP : CycleClosed P) (a : Word) (v : Byte) {s : State} (h : P s) :
    (memWrite a v s).All P :=
  Res.All.bind (hP.busWrite a v h) fun _ _ _ h1 => hP.cycle h1

theorem CycleClosed.internal (hP : CycleClosed P) {s : State} (h : P s) : (internal s).All P := hP.cycle h

theorem CycleClosed.internals (hP : CycleClosed P) (n : Nat) {s : State} (h : P s) : (internals n s).All P := by
  induction n generalizing s with
  | zero => exact h
  | succ k ih => exact Res.All.bind (hP.internal h) fun _ _ _ h1 => ih h1

/-! ### What a machine cycle leaves alone -/

theorem SameCpu.refl (s : State) : SameCpu s s := by constructor <;> rfl

theorem SameCpu.trans {s t u : State} (h : SameCpu s t) (k : SameCpu t u) : SameCpu s u where
  a := k.a.trans h.a
  b := k.b.trans h.b
  c := k.c.trans h.c
  d := k.d.trans h.d
  e := k.e.trans h.e
  h := k.h.trans h.h
  l := k.l.trans h.l
  flags := k.flags.trans h.flags
  sp := k.sp.trans h.sp
  pc := k.pc.trans h.pc
  ime := k.ime.trans h.ime
  imePending := k.imePending.trans h.imePending
  runState := k.runState.trans h.runState
  fault := k.fault.trans h.fault
  opPc := k.opPc.trans h.opPc
  cfg := k.cfg.trans h.cfg

/-- "They do not see the CPU registers" (R167). -/
theorem sameCpu_closed (s : State) : CycleClosed (SameCpu s) where
  draw t h := h.trans (by constructor <;> simp)
  device t p h := h.trans (by constructor <;> rfl)
  reg a v t h := h.trans (by constructor <;> simp)
  ram a v t h := h.trans (by constructor <;> rfl)
  copied t _ h := h.trans (by constructor <;> simp)
  count t h := h.trans (by constructor <;> simp)
  request i t h := h.trans (by constructor <;> simp)
  pull t _ _ _ h := h.trans (by constructor <;> rfl)
  called t _ h := h.trans (by constructor <;> rfl)

theorem cycle_sameCpu {s t : State} (h : cycle s = .ok () t) : SameCpu s t :=
  ((sameCpu_closed s).cycle (.refl s)).of_ok h

theorem internal_sameCpu {s t : State} (h : internal s = .ok () t) : SameCpu s t := cycle_sameCpu h

theorem internals_sameCpu {n : Nat} {s t : State} (h : internals n s = .ok () t) : SameCpu s t :=
  ((sameCpu_closed s).internals n (.refl s)).of_ok h

theorem memRead_sameCpu {a : Word} {s t : State} {v : Byte} (h : memRead a s = .ok v t) : SameCpu s t :=
  ((sameCpu_closed s).memRead a (.refl s)).of_ok h

theorem memWrite_sameCpu {a : Word} {v : Byte} {s t : State} (h : memWrite a v s = .ok () t) : SameCpu s t :=
  ((sameCpu_closed s).memWrite a v (.refl s)).of_ok h

/-- What a register or flag reads is the CPU's own part of the state. -/
theorem SameCpu.reg {s t : State} (h : SameCpu s t) (r : Reg8) : t.reg r = s.reg r := by
  cases r <;> simp only [State.reg, h.a, h.b, h.c, h.d, h.e, h.h, h.l]
theorem SameCpu.bc {s t : State} (h : SameCpu s t) : t.bc = s.bc := by simp only [State.bc, h.b, h.c]
theorem SameCpu.de {s t : State} (h : SameCpu s t) : t.de = s.de := by simp only [State.de, h.d, h.e]
theorem SameCpu.hl {s t : State} (h : SameCpu s t) : t.hl = s.hl := by simp only [State.hl, h.h, h.l]
theorem SameCpu.af {s t : State} (h : SameCpu s t) : t.af = s.af := by simp only [State.af, h.a, h.flags]
theorem SameCpu.pair {s t : State} (h : SameCpu s t) (p : RegDd) : t.pair p = s.pair p := by
  cases p <;> simp only [State.pair, h.bc, h.de, h.hl, h.sp]
theorem SameCpu.stackPair {s t : State} (h : SameCpu s t) (q : RegQq) : t.stackPair q = s.stackPair q := by
  cases q <;> simp only [State.stackPair, h.bc, h.de, h.hl, h.af]

/-! ### What a machine cycle does not see (R167) -/

theorem onState_bind {α β : Type} {g : State → State} {r : Res α} {f f' : α → State → Res β}
    (h : ∀ v s, f' v (g s) = (f v s).onState g) : (r.onState g).bind f' = (r.bind f).onState g := by
  cases r with
  | ok v s => exact h v s
  | fault k s => rfl

/-- `op` does not see the CPU: with another CPU in the state it does the same, and leaves that CPU as it is. -/
def Blind {α : Type} (op : State → Res α) : Prop :=
  ∀ c s : State, op (s.withCpu c) = (op s).onState (·.withCpu c)

theorem Blind.bind {α β : Type} {op : State → Res α} {f : α → State → Res β} (h : Blind op)
    (hf : ∀ v, Blind (f v)) : Blind (fun s => (op s).bind f) := fun c s => by
  show (op (s.withCpu c)).bind f = _
  rw [h c s]
  exact onState_bind fun v t => hf v c t

theorem routerRead_blind (a : Word) : Blind (routerRead a) := fun c s => by
  unfold routerRead
  rw [show peek a (s.withCpu c) = peek a s from rfl]
  cases peek a s with
  | none => rfl
  | some v =>
    show Res.ok v _ = Res.ok v _
    congr 1
    unfold afterRead
    rw [show (s.withCpu c).cfg = s.cfg from rfl]
    split <;> rfl

theorem routerWrite_blind (a : Word) (v : Byte) : Blind (routerWrite a v) := fun c s => by
  have reg : cpuRegWrite a v (s.withCpu c) = (cpuRegWrite a v s).withCpu c := by
    unfold cpuRegWrite
    split
    · rfl
    · split <;> rfl
  unfold routerWrite poke
  rw [show (s.withCpu c).cfg = s.cfg from rfl]
  cases deviceMap s.cfg a with
  | none => rfl
  | some o =>
    cases o with
    | cpu => exact congrArg (Res.ok ()) reg
    | ram => rfl
    | peripheral => rfl

theorem dmaStep_blind : Blind dmaStep := by
  refine Blind.bind (fun c s => ?_) fun _ c s => ?_
  · unfold dmaCopy
    rw [show (s.withCpu c).dmaActive = s.dmaActive from rfl]
    split
    · rw [show dmaSourceAddr (s.withCpu c) = dmaSourceAddr s from rfl, routerRead_blind _ c s]
      refine onState_bind fun v t => ?_
      rw [show dmaTargetAddr (s.withCpu c) = dmaTargetAddr s from rfl, routerWrite_blind _ _ c t]
      refine onState_bind fun _ u => ?_
      show Res.ok () _ = Res.ok () _
      congr 1
      unfold dmaCopied
      rw [show (u.withCpu c).dmaIndex = u.dmaIndex from rfl]
      split <;> rfl
    · rfl
  · show Res.ok () _ = Res.ok () _
    congr 1
    unfold dmaCountDown
    rw [show (s.withCpu c).dmaDelay = s.dmaDelay from rfl]
    split
    · split <;> rfl
    · rfl

theorem runEvent_blind (ev : ExtEvent) : Blind (runEvent ev) := by
  cases ev with
  | request i => exact fun _ _ => rfl
  | read a => exact (routerRead_blind a).bind fun _ _ _ => rfl
  | write a v => exact (routerWrite_blind a v).bind fun _ _ _ => rfl

theorem runEvents_blind (evs : List ExtEvent) : Blind (runEvents evs) := by
  induction evs with
  | nil => exact fun _ _ => rfl
  | cons ev rest ih => exact (runEvent_blind ev).bind fun _ => ih

theorem platformAct_blind (n : Nat) : Blind (platformAct n) := by
  refine Blind.bind (fun c s => ?_) fun _ _ _ => rfl
  unfold platformEvent
  rw [show (s.withCpu c).visible = s.visible from rfl]
  cases Config.platformEvent n s.visible with
  | none => rfl
  | some ev => exact runEvent_blind ev c s

theorem platformCall_blind (n k : Nat) : Blind (platformCall n k) := by
  induction k with
  | zero => exact fun _ _ => rfl
  | succ j ih => exact (platformAct_blind n).bind fun _ => ih

theorem extCycle_blind : Blind extCycle := fun c s => by
  unfold extCycle
  rw [show (s.withCpu c).ext = s.ext from rfl]
  split
  · exact runEvents_blind _ c { s with ext := _ }
  · rw [show (s.withCpu c).cfg = s.cfg from rfl]
    split
    · rfl
    · exact runEvents_blind _ c { s with extCalls := s.extCalls + 1 }
    · exact platformCall_blind _ _ c { s with extCalls := s.extCalls + 1 }

theorem cycle_blind : Blind cycle := dmaStep_blind.bind fun _ => extCycle_blind

theorem memRead_blind (a : Word) : Blind (memRead a) := by
  refine Blind.bind (fun c s => ?_) fun v => cycle_blind.bind fun _ _ _ => rfl
  unfold busRead
  rw [show cpuMayAccess a (s.withCpu c) = cpuMayAccess a s from rfl]
  split
  · exact routerRead_blind a c s
  · rfl

theorem memWrite_blind (a : Word) (v : Byte) : Blind (memWrite a v) := by
  refine Blind.bind (fun c s => ?_) fun _ => cycle_blind
  unfold busWrite
  rw [show cpuMayAccess a (s.withCpu c) = cpuMayAccess a s from rfl]
  split
  · exact routerWrite_blind a v c s
  · rw [show (s.withCpu c).draws = s.draws from rfl]
    split
    · exact routerWrite_blind a v c (drawn s)
    · rfl

/-! ### A call of the callback, by what `EXT_CALLBACK` is (R9) -/

theorem extCycle_first {s : State} {evs : List ExtEvent} {rest : List (List ExtEvent)} (h : s.ext = evs :: rest) :
    extCycle s = runEvents evs { s with ext := rest } := by simp only [extCycle, h]

theorem extCycle_noop {s : State} (h : s.ext = []) (n : s.cfg.callback.after = .noop) : extCycle s = .ok () s := by
  simp only [extCycle, h, n]

theorem extCycle_loop {s : State} {calls : List (List ExtEvent)} (h : s.ext = [])
    (n : s.cfg.callback.after = .loop calls) :
    extCycle s = runEvents (loopEvents calls s.extCalls) { s with extCalls := s.extCalls + 1 } := by
  simp only [extCycle, h, n]

theorem extCycle_platform {s : State} {p : Nat} (h : s.ext = []) (n : s.cfg.callback.after = .platform p) :
    extCycle s = platformCall p (Config.platformActs p s.visible) { s with extCalls := s.extCalls + 1 } := by
  simp only [extCycle, h, n]

/-! ### The callback's calls count machine cycles (R164) -/

theorem Called.zero (s : State) : Called 0 s s := ⟨rfl, by simp, rfl⟩

theorem Called.trans {n m : Nat} {s t u : State} (h : Called n s t) (k : Called m t u) : Called (n + m) s u where
  ext := by rw [k.ext, h.ext, List.drop_drop]
  calls := by
    rw [k.calls, h.calls, h.cfg, h.ext, List.length_drop]
    split <;> omega
  cfg := k.cfg.trans h.cfg

/-- The callback's calls are a matter of its own fields and the platform only. -/
theorem Called.congr {n : Nat} {s t u : State} (k : Called n s t) (a : u.ext = t.ext)
    (b : u.extCalls = t.extCalls) (c : u.cfg = t.cfg) : Called n s u := ⟨a.trans k.ext, b.trans k.calls, c.trans k.cfg⟩

/-- What the router, the DMA step and a callback event leave alone: the callback's own fields and the platform. -/
theorem callback_closed (s : State) :
    RouterClosed (fun t => t.ext = s.ext ∧ t.extCalls = s.extCalls ∧ t.cfg = s.cfg) where
  draw _ h := h
  device _ _ h := h
  reg a v t h := by simpa using h
  ram _ _ _ h := h
  copied t _ h := by simpa using h
  count t h := by simpa using h
  request _ _ h := h

theorem Called.of_router {s t u : State} {n : Nat} (h : t.ext = s.ext ∧ t.extCalls = s.extCalls ∧ t.cfg = s.cfg)
    (k : Called n t u) : Called n s u := by
  have z : Called 0 s t := ⟨h.1, by simp [h.2.1], h.2.2⟩
  simpa using z.trans k

theorem extCycle_called {s t : State} (h : extCycle s = .ok () t) : Called 1 s t := by
  cases e : s.ext with
  | cons evs rest =>
    rw [extCycle_first e] at h
    have k := ((callback_closed _).runEvents evs (s := { s with ext := rest }) ⟨rfl, rfl, rfl⟩).of_ok h
    exact ⟨by rw [e]; exact k.1, by rw [e]; simpa using k.2.1, k.2.2⟩
  | nil =>
    cases n : s.cfg.callback.after with
    | noop =>
      rw [extCycle_noop e n] at h
      cases h
      exact ⟨by simp [e], by simp [n], rfl⟩
    | loop calls =>
      rw [extCycle_loop e n] at h
      have k := ((callback_closed _).runEvents _ (s := { s with extCalls := s.extCalls + 1 }) ⟨rfl, rfl, rfl⟩).of_ok h
      exact ⟨by rw [k.1]; simp [e], by rw [k.2.1]; simp [e, n], k.2.2⟩
    | platform p =>
      rw [extCycle_platform e n] at h
      have k := ((callback_closed _).platformCall p _ (s := { s with extCalls := s.extCalls + 1 }) ⟨rfl, rfl, rfl⟩).of_ok h
      exact ⟨by rw [k.1]; simp [e], by rw [k.2.1]; simp [e, n], k.2.2⟩

/-- A machine cycle calls the callback once (R152). -/
theorem cycle_called {s t : State} (h : cycle s = .ok () t) : Called 1 s t := by
  obtain ⟨_, s1, h1, h2⟩ := bind_eq_ok.mp h
  exact (extCycle_called h2).of_router (((callback_closed s).dmaStep ⟨rfl, rfl, rfl⟩).of_ok h1)

theorem internals_called {n : Nat} {s t : State} (h : internals n s = .ok () t) : Called n s t := by
  induction n generalizing s with
  | zero => cases h; exact .zero _
  | succ k ih =>
    obtain ⟨_, s1, h1, h2⟩ := bind_eq_ok.mp h
    rw [Nat.add_comm]
    exact (cycle_called h1).trans (ih h2)

theorem memRead_called {a : Word} {s t : State} {v : Byte} (h : memRead a s = .ok v t) : Called 1 s t := by
  obtain ⟨u, s1, h1, h2⟩ := bind_eq_ok.mp h
  obtain ⟨_, s2, h3, h4⟩ := bind_eq_ok.mp h2
  cases h4
  exact (cycle_called h3).of_router (((callback_closed s).busRead a ⟨rfl, rfl, rfl⟩).of_ok h1)

theorem memWrite_called {a : Word} {v : Byte} {s t : State} (h : memWrite a v s = .ok () t) : Called 1 s t := by
  obtain ⟨_, s1, h1, h2⟩ := bind_eq_ok.mp h
  exact (cycle_called h2).of_router (((callback_closed s).busWrite a v ⟨rfl, rfl, rfl⟩).of_ok h1)

/-! ### The invariant of a running machine -/

/-- Every bus operation keeps the invariant, also where it faults: only a step sets `fault`. -/
theorem inv_closed : CycleClosed State.Inv where
  draw _ h := ⟨h.memory, h.delay, h.index, h.copying, h.running⟩
  device _ _ h := ⟨h.memory, h.delay, h.index, h.copying, h.running⟩
  reg a v s h := by
    unfold cpuRegWrite
    split
    · exact ⟨h.memory, h.delay, h.index, h.copying, h.running⟩
    · split
      · exact ⟨h.memory, Nat.le_refl 4, h.index, h.copying, h.running⟩
      · exact ⟨h.memory, h.delay, h.index, h.copying, h.running⟩
  ram a v s h := ⟨wf_write a v h.memory, h.delay, h.index, h.copying, h.running⟩
  copied s hs h := by
    have hi := h.copying hs
    unfold dmaCopied
    split
    · exact ⟨h.memory, h.delay, (by show s.dmaIndex + 1 ≤ 160; omega), (fun e => nomatch e), h.running⟩
    · exact ⟨h.memory, h.delay, (by show s.dmaIndex + 1 ≤ 160; omega),
        (fun _ => by show s.dmaIndex + 1 < 160; omega), h.running⟩
  count s h := by
    have hd := h.delay
    unfold dmaCountDown
    split
    · split
      · exact ⟨h.memory, Nat.zero_le _, Nat.zero_le _, (fun _ => by show 0 < 160; omega), h.running⟩
      · exact ⟨h.memory, (by show s.dmaDelay - 1 ≤ 4; omega), h.index, h.copying, h.running⟩
    · exact h
  request _ _ h := ⟨h.memory, h.delay, h.index, h.copying, h.running⟩
  pull _ _ _ _ h := ⟨h.memory, h.delay, h.index, h.copying, h.running⟩
  called _ _ h := ⟨h.memory, h.delay, h.index, h.copying, h.running⟩

/-! ### A platform with no hole: no bus operation faults (R73) -/

theorem cfg_closed (c : Config) : CycleClosed (fun t => t.cfg = c) where
  draw _ h := h
  device _ _ h := h
  reg a v t h := (cpuRegWrite_cfg a v t).trans h
  ram _ _ _ h := h
  copied t _ h := (dmaCopied_cfg t).trans h
  count t h := (dmaCountDown_cfg t).trans h
  request _ _ h := h
  pull _ _ _ _ h := h
  called _ _ h := h

theorem routerRead_total {s : State} (hs : FullyMapped s.cfg) (a : Word) : ∃ v t, routerRead a s = .ok v t := by
  have h := hs a
  unfold routerRead peek
  cases e : deviceMap s.cfg a with
  | none => simp [e] at h
  | some o => cases o <;> exact ⟨_, _, rfl⟩

theorem routerWrite_total {s : State} (hs : FullyMapped s.cfg) (a : Word) (v : Byte) :
    ∃ t, routerWrite a v s = .ok () t := by
  have h := hs a
  unfold routerWrite poke
  cases e : deviceMap s.cfg a with
  | none => simp [e] at h
  | some o => cases o <;> exact ⟨_, rfl⟩

theorem dmaStep_total {s : State} (hs : FullyMapped s.cfg) : ∃ t, dmaStep s = .ok () t := by
  have copy : ∃ t, dmaCopy s = .ok () t := by
    unfold dmaCopy
    split
    · obtain ⟨v, s1, h1⟩ := routerRead_total hs (dmaSourceAddr s)
      have c1 : s1.cfg = s.cfg := ((cfg_closed s.cfg).routerRead _ rfl).of_ok h1
      obtain ⟨s2, h2⟩ := routerWrite_total (s := s1) (c1 ▸ hs) (dmaTargetAddr s) v
      exact ⟨_, by rw [h1, bind_ok, h2]; rfl⟩
    · exact ⟨s, rfl⟩
  obtain ⟨t, ht⟩ := copy
  exact ⟨_, by rw [dmaStep, ht]; rfl⟩

theorem runEvent_total (ev : ExtEvent) {s : State} (hs : FullyMapped s.cfg) : ∃ v t, runEvent ev s = .ok v t := by
  cases ev with
  | request i => exact ⟨_, _, rfl⟩
  | read a =>
    obtain ⟨v, t, h⟩ := routerRead_total hs a
    exact ⟨some v, t, by rw [runEvent, h]; rfl⟩
  | write a v =>
    obtain ⟨t, h⟩ := routerWrite_total hs a v
    exact ⟨none, t, by rw [runEvent, h]; rfl⟩

theorem runEvents_total (evs : List ExtEvent) {s : State} (hs : FullyMapped s.cfg) :
    ∃ t, runEvents evs s = .ok () t := by
  induction evs generalizing s with
  | nil => exact ⟨s, rfl⟩
  | cons ev rest ih =>
    obtain ⟨_, s1, h1⟩ := runEvent_total ev hs
    have c1 : s1.cfg = s.cfg := ((cfg_closed s.cfg).runEvent ev rfl).of_ok h1
    obtain ⟨t, ht⟩ := ih (s := s1) (c1 ▸ hs)
    exact ⟨t, by rw [runEvents, h1]; exact ht⟩

theorem platformCall_total (n k : Nat) {s : State} (hs : FullyMapped s.cfg) : ∃ t, platformCall n k s = .ok () t := by
  induction k generalizing s with
  | zero => exact ⟨s, rfl⟩
  | succ j ih =>
    have act : ∃ t, platformAct n s = .ok () t := by
      unfold platformAct platformEvent
      split
      · exact ⟨_, rfl⟩
      · obtain ⟨v, t, h⟩ := runEvent_total ‹_› hs
        exact ⟨_, by rw [h, bind_ok]⟩
    obtain ⟨s1, h1⟩ := act
    have c1 : s1.cfg = s.cfg := ((cfg_closed s.cfg).platformCall n 1 rfl).of_ok (by rw [platformCall, h1]; rfl)
    obtain ⟨t, ht⟩ := ih (s := s1) (c1 ▸ hs)
    exact ⟨t, by rw [platformCall, h1]; exact ht⟩

theorem cycle_total {s : State} (hs : FullyMapped s.cfg) : ∃ t, cycle s = .ok () t := by
  obtain ⟨s1, h1⟩ := dmaStep_total hs
  have c1 : s1.cfg = s.cfg := ((cfg_closed s.cfg).dmaStep rfl).of_ok h1
  rw [cycle, h1, bind_ok, extCycle]
  split
  · exact runEvents_total _ (s := { s1 with ext := _ }) (c1 ▸ hs)
  · split
    · exact ⟨_, rfl⟩
    · exact runEvents_total _ (s := { s1 with extCalls := _ }) (c1 ▸ hs)
    · exact platformCall_total _ _ (s := { s1 with extCalls := _ }) (c1 ▸ hs)

theorem memRead_total {s : State} (hs : FullyMapped s.cfg) (a : Word) : ∃ v t, memRead a s = .ok v t := by
  have bus : ∃ v s1, busRead a s = .ok v s1 := by
    unfold busRead
    split
    · exact routerRead_total hs a
    · exact ⟨_, _, rfl⟩
  obtain ⟨v, s1, h1⟩ := bus
  have c1 : s1.cfg = s.cfg := ((cfg_closed s.cfg).busRead a rfl).of_ok h1
  obtain ⟨t, ht⟩ := cycle_total (s := s1) (c1 ▸ hs)
  exact ⟨v, t, by rw [memRead, h1, bind_ok, ht, bind_ok]⟩

theorem memWrite_total {s : State} (hs : FullyMapped s.cfg) (a : Word) (v : Byte) :
    ∃ t, memWrite a v s = .ok () t := by
  have bus : ∃ s1, busWrite a v s = .ok () s1 := by
    unfold busWrite
    split
    · exact routerWrite_total hs a v
    · split
      · exact routerWrite_total (s := drawn s) hs a v
      · exact ⟨_, rfl⟩
  obtain ⟨s1, h1⟩ := bus
  have c1 : s1.cfg = s.cfg := ((cfg_closed s.cfg).busWrite a v rfl).of_ok h1
  obtain ⟨t, ht⟩ := cycle_total (s := s1) (c1 ▸ hs)
  exact ⟨t, by rw [memWrite, h1, bind_ok, ht]⟩

theorem internal_total {s : State} (hs : FullyMapped s.cfg) : ∃ t, internal s = .ok () t := cycle_total hs

theorem internals_total {s : State} (hs : FullyMapped s.cfg) (n : Nat) : ∃ t, internals n s = .ok () t := by
  induction n generalizing s with
  | zero => exact ⟨s, rfl⟩
  | succ k ih =>
    obtain ⟨s1, h1⟩ := internal_total hs
    obtain ⟨t, ht⟩ := ih (s := s1) ((internal_sameCpu h1).cfg ▸ hs)
    exact ⟨t, by rw [internals, h1]; exact ht⟩

/-! ### A quiet bus: a cycle changes nothing -/

/-- A quiet bus is a matter of the DMA engine and the callback only. -/
theorem Quiet.congr {s t : State} (q : Quiet s) (a : t.dmaActive = s.dmaActive) (b : t.dmaDelay = s.dmaDelay)
    (c : t.ext = s.ext) (d : t.cfg = s.cfg) : Quiet t :=
  ⟨a.trans q.idle, b.trans q.unarmed, c.trans q.noCallback, d ▸ q.noop⟩

theorem dmaStep_idle {s : State} (h : s.dmaActive = false) (hd : s.dmaDelay = 0) : dmaStep s = .ok () s := by
  simp [dmaStep, dmaCopy, dmaCountDown, h, hd]

theorem cycle_quiet {s : State} (h : Quiet s) : cycle s = .ok () s := by
  rw [cycle, dmaStep_idle h.idle h.unarmed, bind_ok, extCycle_noop h.noCallback h.noop]

theorem internals_quiet {s : State} (h : Quiet s) (n : Nat) : internals n s = .ok () s := by
  induction n with
  | zero => rfl
  | succ k ih => rw [internals, internal, cycle_quiet h]; exact ih

theorem dmaStep_inactive {s : State} (h : s.dmaActive = false) : dmaStep s = .ok () (dmaCountDown s) := by
  simp [dmaStep, dmaCopy, h]

/-- With the no-op callback a machine cycle is the DMA step (R152). -/
theorem cycle_of_dmaStep {s t : State} (h : dmaStep s = .ok () t) (e : t.ext = [])
    (n : t.cfg.callback.after = .noop) : cycle s = .ok () t := by
  rw [cycle, h, bind_ok, extCycle_noop e n]

/-- A cycle in which no transfer copies or starts counts the delay down and does nothing else (R95). -/
theorem cycle_waiting {s : State} (h : s.dmaActive = false) (e : s.ext = []) (n : s.cfg.callback.after = .noop)
    (d : s.dmaDelay ≠ 1) :
    cycle s = .ok () { s with dmaDelay := s.dmaDelay - 1 } := by
  have k : dmaCountDown s = { s with dmaDelay := s.dmaDelay - 1 } := by
    unfold dmaCountDown
    split
    · rw [if_neg (by omega)]
    · rw [show s.dmaDelay - 1 = s.dmaDelay by omega]
  exact cycle_of_dmaStep (k ▸ dmaStep_inactive h) e n

/-- The cycle in which the delay reaches 0 starts the transfer (R95, R96). -/
theorem cycle_starting {s : State} (h : s.dmaActive = false) (e : s.ext = []) (n : s.cfg.callback.after = .noop)
    (d : s.dmaDelay = 1) :
    cycle s = .ok () { s with dmaDelay := 0, dmaActive := true, dmaSrc := s.dmaReg, dmaIndex := 0 } := by
  have k : dmaCountDown s = { s with dmaDelay := 0, dmaActive := true, dmaSrc := s.dmaReg, dmaIndex := 0 } := by
    unfold dmaCountDown
    rw [if_pos (by omega), if_pos (by omega)]
  exact cycle_of_dmaStep (k ▸ dmaStep_inactive h) e n

/-- A cycle of a running transfer between two RAM addresses copies its byte (R95, R97). -/
theorem cycle_copying {s : State} (h : s.dmaActive = true) (e : s.ext = []) (n : s.cfg.callback.after = .noop)
    (d : s.dmaDelay = 0)
    (hs : deviceMap s.cfg (dmaSourceAddr s) = some .ram) (ht : deviceMap s.cfg (dmaTargetAddr s) = some .ram) :
    cycle s = .ok () (dmaCopied
      { s with mem := Mem.write s.mem (dmaTargetAddr s).toNat (ramByte (dmaSourceAddr s) s) }) := by
  refine cycle_of_dmaStep ?_ (by simp [dmaCopied_ext, e]) (by simp [dmaCopied_cfg, n])
  have k : ∀ t : State, t.dmaDelay = 0 → dmaCountDown t = t := fun t h => by simp [dmaCountDown, h]
  simp only [dmaStep, dmaCopy, h, if_true, routerRead, peek, hs, afterRead, bind_ok, routerWrite, poke, ht]
  rw [k _ (by simp [dmaCopied_dmaDelay, d])]
  rfl

/-- On a quiet bus a read of a RAM address gives its byte and changes nothing. -/
theorem memRead_quiet_ram {s : State} {a : Word} (h : Quiet s) (ha : deviceMap s.cfg a = some .ram) :
    memRead a s = .ok (ramByte a s) s := by
  simp [memRead, busRead, cpuMayAccess, h.idle, routerRead, peek, afterRead, ha, cycle_quiet h, ramByte]

/-- On a quiet bus a write of a RAM address changes its byte and nothing else. -/
theorem memWrite_quiet_ram {s : State} {a : Word} (v : Byte) (h : Quiet s) (ha : deviceMap s.cfg a = some .ram) :
    memWrite a v s = .ok () { s with mem := Mem.write s.mem a.toNat v } := by
  have q : Quiet { s with mem := Mem.write s.mem a.toNat v } := ⟨h.idle, h.unarmed, h.noCallback, h.noop⟩
  have e : cpuMayAccess a s = true := by simp [cpuMayAccess, h.idle]
  simp only [memWrite, busWrite, e, if_true, routerWrite, poke, ha, bind_ok]
  exact cycle_quiet q

end Sys2Proof.Machine
end

