-- ==== Sys2Proof/Laws/Stack.lean ====
section
/-! SUPPORT. What the fetches, the stack operations, a dispatch and a return can do, said once for each: which
part of the CPU they change, how many machine cycles they take, that they keep the invariant and when they
cannot fault. -/

namespace Sys2Proof.Machine

/-! ### Fetches -/

theorem fetchByte_cpu {s t : State} {v : Byte} (h : fetchByte s = .ok v t) :
    SameCpu { s with pc := s.pc + 1 } t := by
  obtain ⟨u, s1, h1, h2⟩ := bind_eq_ok.mp h
  cases h2
  have k := memRead_sameCpu h1
  exact { k with pc := congrArg (· + 1) k.pc }

theorem fetchByte_called {s t : State} {v : Byte} (h : fetchByte s = .ok v t) : Called 1 s t := by
  obtain ⟨u, s1, h1, h2⟩ := bind_eq_ok.mp h
  cases h2
  exact (memRead_called h1).congr rfl rfl rfl

theorem fetchWord_cpu {s t : State} {v : Word} (h : fetchWord s = .ok v t) :
    SameCpu { s with pc := s.pc + 2 } t := by
  obtain ⟨lo, s1, h1, h2⟩ := bind_eq_ok.mp h
  obtain ⟨hi, s2, h3, h4⟩ := bind_eq_ok.mp h2
  cases h4
  have k := fetchByte_cpu h1
  have l := fetchByte_cpu h3
  exact { a := l.a.trans k.a, b := l.b.trans k.b, c := l.c.trans k.c, d := l.d.trans k.d, e := l.e.trans k.e
          h := l.h.trans k.h, l := l.l.trans k.l, flags := l.flags.trans k.flags, sp := l.sp.trans k.sp
          pc := by
            have e := l.pc
            have e' := k.pc
            simp only at e e' ⊢
            rw [e, e', BitVec.add_assoc]; rfl
          ime := l.ime.trans k.ime, imePending := l.imePending.trans k.imePending
          runState := l.runState.trans k.runState, fault := l.fault.trans k.fault, opPc := l.opPc.trans k.opPc
          cfg := l.cfg.trans k.cfg }

theorem fetchWord_called {s t : State} {v : Word} (h : fetchWord s = .ok v t) : Called 2 s t := by
  obtain ⟨lo, s1, h1, h2⟩ := bind_eq_ok.mp h
  obtain ⟨hi, s2, h3, h4⟩ := bind_eq_ok.mp h2
  cases h4
  exact (fetchByte_called h1).trans (fetchByte_called h3)

theorem fetchByte_total {s : State} (hs : FullyMapped s.cfg) : ∃ v t, fetchByte s = .ok v t := by
  obtain ⟨v, t, h⟩ := memRead_total hs s.pc
  exact ⟨v, _, by rw [fetchByte, h, bind_ok]⟩

theorem fetchWord_total {s : State} (hs : FullyMapped s.cfg) : ∃ v t, fetchWord s = .ok v t := by
  obtain ⟨v, s1, h1⟩ := fetchByte_total hs
  obtain ⟨w, t, h2⟩ := fetchByte_total (s := s1) ((fetchByte_cpu h1).cfg ▸ hs)
  exact ⟨w ++ v, t, by rw [fetchWord, h1, bind_ok, h2, bind_ok]⟩

/-- The invariant looks at memory, the DMA engine and the fault only. -/
theorem State.Inv.congr {s t : State} (h : s.Inv) (hm : t.mem = s.mem) (hd : t.dmaDelay = s.dmaDelay)
    (hi : t.dmaIndex = s.dmaIndex) (ha : t.dmaActive = s.dmaActive) (hf : t.fault = s.fault) : t.Inv where
  memory := hm ▸ h.memory
  delay := hd ▸ h.delay
  index := hi ▸ h.index
  copying := by rw [ha, hi]; exact h.copying
  running := hf ▸ h.running

theorem fetchByte_inv {s : State} (h : s.Inv) : (fetchByte s).All State.Inv :=
  Res.All.bind (inv_closed.memRead s.pc h) fun _ _ _ h1 => h1.congr rfl rfl rfl rfl rfl

theorem fetchWord_inv {s : State} (h : s.Inv) : (fetchWord s).All State.Inv :=
  Res.All.bind (fetchByte_inv h) fun _ _ _ h1 => Res.All.bind (fetchByte_inv h1) fun _ _ _ h2 => h2

/-! ### The stack -/

theorem push16_cpu {v : Word} {s t : State} (h : push16 v s = .ok () t) :
    SameCpu { s with sp := s.sp - 2 } t := by
  obtain ⟨_, s1, h1, h2⟩ := bind_eq_ok.mp h
  have k := memWrite_sameCpu h1
  have l := memWrite_sameCpu h2
  exact { a := l.a.trans k.a, b := l.b.trans k.b, c := l.c.trans k.c, d := l.d.trans k.d, e := l.e.trans k.e
          h := l.h.trans k.h, l := l.l.trans k.l, flags := l.flags.trans k.flags, pc := l.pc.trans k.pc
          sp := by
            have e := l.sp
            have e' := k.sp
            simp only at e e' ⊢
            rw [e, e']; bv_omega
          ime := l.ime.trans k.ime, imePending := l.imePending.trans k.imePending
          runState := l.runState.trans k.runState, fault := l.fault.trans k.fault, opPc := l.opPc.trans k.opPc
          cfg := l.cfg.trans k.cfg }

theorem push16_called {v : Word} {s t : State} (h : push16 v s = .ok () t) : Called 2 s t := by
  obtain ⟨_, s1, h1, h2⟩ := bind_eq_ok.mp h
  have k : Called 1 s s1 := { memWrite_called h1 with }
  exact k.trans { memWrite_called h2 with }

theorem pop16_cpu {v : Word} {s t : State} (h : pop16 s = .ok v t) : SameCpu { s with sp := s.sp + 2 } t := by
  obtain ⟨lo, s1, h1, h2⟩ := bind_eq_ok.mp h
  obtain ⟨hi, s2, h3, h4⟩ := bind_eq_ok.mp h2
  cases h4
  have k := memRead_sameCpu h1
  have l := memRead_sameCpu h3
  exact { a := l.a.trans k.a, b := l.b.trans k.b, c := l.c.trans k.c, d := l.d.trans k.d, e := l.e.trans k.e
          h := l.h.trans k.h, l := l.l.trans k.l, flags := l.flags.trans k.flags, pc := l.pc.trans k.pc
          sp := by
            have e := l.sp
            have e' := k.sp
            simp only at e e' ⊢
            rw [e, e']; bv_omega
          ime := l.ime.trans k.ime, imePending := l.imePending.trans k.imePending
          runState := l.runState.trans k.runState, fault := l.fault.trans k.fault, opPc := l.opPc.trans k.opPc
          cfg := l.cfg.trans k.cfg }

theorem pop16_called {v : Word} {s t : State} (h : pop16 s = .ok v t) : Called 2 s t := by
  obtain ⟨lo, s1, h1, h2⟩ := bind_eq_ok.mp h
  obtain ⟨hi, s2, h3, h4⟩ := bind_eq_ok.mp h2
  cases h4
  have k : Called 1 s { s1 with sp := s1.sp + 1 } := (memRead_called h1).congr rfl rfl rfl
  exact (k.trans (memRead_called h3)).congr rfl rfl rfl

theorem push16_total {s : State} (hs : FullyMapped s.cfg) (v : Word) : ∃ t, push16 v s = .ok () t := by
  obtain ⟨s1, h1⟩ := memWrite_total (s := { s with sp := s.sp - 1 }) hs (s.sp - 1) (hiByte v)
  obtain ⟨t, h2⟩ := memWrite_total (s := { s1 with sp := s1.sp - 1 }) ((memWrite_sameCpu h1).cfg ▸ hs)
    (s1.sp - 1) (loByte v)
  exact ⟨t, by simp only [push16, h1, bind_ok, h2]⟩

theorem pop16_total {s : State} (hs : FullyMapped s.cfg) : ∃ v t, pop16 s = .ok v t := by
  obtain ⟨lo, s1, h1⟩ := memRead_total hs s.sp
  obtain ⟨hi, s2, h2⟩ := memRead_total (s := { s1 with sp := s1.sp + 1 }) ((memRead_sameCpu h1).cfg ▸ hs)
    (s1.sp + 1)
  exact ⟨hi ++ lo, _, by simp only [pop16, h1, bind_ok, h2]; rfl⟩

theorem push16_inv {s : State} (h : s.Inv) (v : Word) : (push16 v s).All State.Inv :=
  Res.All.bind (inv_closed.memWrite _ _ (h.congr rfl rfl rfl rfl rfl)) fun _ _ _ h1 =>
    inv_closed.memWrite _ _ (h1.congr rfl rfl rfl rfl rfl)

theorem pop16_inv {s : State} (h : s.Inv) : (pop16 s).All State.Inv :=
  Res.All.bind (inv_closed.memRead _ h) fun _ _ _ h1 =>
    Res.All.bind (inv_closed.memRead _ (h1.congr rfl rfl rfl rfl rfl)) fun _ _ _ h2 =>
      h2.congr rfl rfl rfl rfl rfl

/-! ### Fetches and a push on a quiet bus over RAM -/

theorem fetchByte_quiet {s : State} (q : Quiet s) (h : deviceMap s.cfg s.pc = some .ram) :
    fetchByte s = .ok (ramByte s.pc s) { s with pc := s.pc + 1 } := by
  rw [fetchByte, memRead_quiet_ram q h, bind_ok]

theorem fetchWord_quiet {s : State} (q : Quiet s) (h : deviceMap s.cfg s.pc = some .ram)
    (h' : deviceMap s.cfg (s.pc + 1) = some .ram) :
    fetchWord s = .ok (ramByte (s.pc + 1) s ++ ramByte s.pc s) { s with pc := s.pc + 2 } := by
  rw [fetchWord, fetchByte_quiet q h, bind_ok,
    fetchByte_quiet (s := { s with pc := s.pc + 1 }) (q.congr rfl rfl rfl rfl) h', bind_ok]
  show Res.ok _ { s with pc := s.pc + 1 + 1 } = _
  rw [show s.pc + 1 + 1 = s.pc + 2 by bv_omega]
  rfl

theorem push16_quiet {s : State} (v : Word) (q : Quiet s) (h : deviceMap s.cfg (s.sp - 1) = some .ram)
    (h' : deviceMap s.cfg (s.sp - 2) = some .ram) :
    push16 v s = .ok () { s with
      sp := s.sp - 2
      mem := Mem.write (Mem.write s.mem (s.sp - 1).toNat (hiByte v)) (s.sp - 2).toNat (loByte v) } := by
  have e : s.sp - 1 - 1 = s.sp - 2 := by bv_omega
  unfold push16
  simp only [memWrite_quiet_ram (s := { s with sp := s.sp - 1 }) _ (q.congr rfl rfl rfl rfl) h, bind_ok, e]
  exact memWrite_quiet_ram (s := { s with sp := s.sp - 2, mem := _ }) _ (q.congr rfl rfl rfl rfl) h'

/-! ### Returns and dispatch -/

theorem returnTo_cpu {s t : State} (h : returnTo s = .ok () t) :
    ∃ v, SameCpu { s with sp := s.sp + 2, pc := v } t := by
  obtain ⟨v, s1, h1, h2⟩ := bind_eq_ok.mp h
  obtain ⟨_, s2, h3, h4⟩ := bind_eq_ok.mp h2
  cases h4
  have k := (pop16_cpu h1).trans (internal_sameCpu h3)
  exact ⟨v, { k with pc := rfl }⟩

theorem returnTo_called {s t : State} (h : returnTo s = .ok () t) : Called 3 s t := by
  obtain ⟨v, s1, h1, h2⟩ := bind_eq_ok.mp h
  obtain ⟨_, s2, h3, h4⟩ := bind_eq_ok.mp h2
  cases h4
  exact ((pop16_called h1).trans (cycle_called h3)).congr rfl rfl rfl

theorem returnTo_total {s : State} (hs : FullyMapped s.cfg) : ∃ t, returnTo s = .ok () t := by
  obtain ⟨v, s1, h1⟩ := pop16_total hs
  obtain ⟨s2, h2⟩ := internal_total (s := s1) ((pop16_cpu h1).cfg ▸ hs)
  exact ⟨_, by rw [returnTo, h1, bind_ok, h2, bind_ok]⟩

theorem returnTo_inv {s : State} (h : s.Inv) : (returnTo s).All State.Inv :=
  Res.All.bind (pop16_inv h) fun _ _ _ h1 =>
    Res.All.bind (inv_closed.internal h1) fun _ _ _ h2 => h2.congr rfl rfl rfl rfl rfl

/-- What a dispatch makes of the CPU (R389, R390): IME cleared, the machine running, two bytes pushed, PC at the
handler of the lowest enabled request. -/
theorem dispatch_cpu {s t : State} (h : dispatch s = .ok () t) :
    SameCpu { s with ime := false, runState := .normal, sp := s.sp - 2
                     pc := vectorAddr (lowestSource (enabledRequests s)) } t := by
  obtain ⟨_, s1, h1, h⟩ := bind_eq_ok.mp h
  obtain ⟨_, s2, h2, h⟩ := bind_eq_ok.mp h
  obtain ⟨_, s3, h3, h⟩ := bind_eq_ok.mp h
  obtain ⟨_, s4, h4, h⟩ := bind_eq_ok.mp h
  cases h
  have k := (internal_sameCpu h1).trans (internal_sameCpu h2)
  have l := (push16_cpu h3).trans (internal_sameCpu h4)
  exact { a := l.a.trans k.a, b := l.b.trans k.b, c := l.c.trans k.c, d := l.d.trans k.d, e := l.e.trans k.e
          h := l.h.trans k.h, l := l.l.trans k.l, flags := l.flags.trans k.flags, pc := rfl
          sp := l.sp.trans (congrArg (· - 2) k.sp)
          ime := l.ime.trans k.ime, imePending := l.imePending.trans k.imePending
          runState := l.runState.trans k.runState, fault := l.fault.trans k.fault, opPc := l.opPc.trans k.opPc
          cfg := l.cfg.trans k.cfg }

/-- A dispatch takes five machine cycles (R389, R432). -/
theorem dispatch_called {s t : State} (h : dispatch s = .ok () t) : Called 5 s t := by
  obtain ⟨_, s1, h1, h⟩ := bind_eq_ok.mp h
  obtain ⟨_, s2, h2, h⟩ := bind_eq_ok.mp h
  obtain ⟨_, s3, h3, h⟩ := bind_eq_ok.mp h
  obtain ⟨_, s4, h4, h⟩ := bind_eq_ok.mp h
  cases h
  have k : Called 1 s s1 := { cycle_called h1 with }
  exact (((k.trans (cycle_called h2)).trans (push16_called h3)).trans (cycle_called h4)).congr rfl rfl rfl

theorem dispatch_total {s : State} (hs : FullyMapped s.cfg) : ∃ t, dispatch s = .ok () t := by
  obtain ⟨s1, h1⟩ := internal_total (s := acceptInterrupt (lowestSource (enabledRequests s)) s) hs
  obtain ⟨s2, h2⟩ := internal_total (s := s1) ((internal_sameCpu h1).cfg ▸ hs)
  have c2 : s2.cfg = s.cfg := ((internal_sameCpu h1).trans (internal_sameCpu h2)).cfg
  obtain ⟨s3, h3⟩ := push16_total (s := s2) (c2 ▸ hs) s2.pc
  have c3 : s3.cfg = s.cfg := (push16_cpu h3).cfg.trans c2
  obtain ⟨s4, h4⟩ := internal_total (s := s3) (c3 ▸ hs)
  exact ⟨_, by simp only [dispatch, h1, bind_ok, h2, h3, h4]; rfl⟩

theorem dispatch_inv {s : State} (h : s.Inv) : (dispatch s).All State.Inv :=
  Res.All.bind (inv_closed.internal (h.congr rfl rfl rfl rfl rfl)) fun _ _ _ h1 =>
    Res.All.bind (inv_closed.internal h1) fun _ _ _ h2 =>
      Res.All.bind (push16_inv h2 _) fun _ _ _ h3 =>
        Res.All.bind (inv_closed.internal h3) fun _ _ _ h4 => h4.congr rfl rfl rfl rfl rfl

end Sys2Proof.Machine
end

