-- ==== Sys2Proof/Laws/Exec.lean ====
section
/-! SUPPORT. The 512 arms of `exec` are the meanings of their shapes, and the case analysis over shapes. -/

namespace Sys2Proof.Machine

/-- The meaning of each shape. -/
def execShape (sh : Shape) (s : State) : Out :=
  match sh with
  | .aluReg op r => aluReg op r s
  | .aluHl op => aluHl op s
  | .aluImm op n => aluImm op n s
  | .incReg r => incReg r s
  | .incHl => incHl s
  | .decReg r => decReg r s
  | .decHl => decHl s
  | .daa => decimalAdjust s
  | .cpl => complementA s
  | .scf => setCarry s
  | .ccf => complementCarry s
  | .addHl p => addHl p s
  | .incPair p => incPair p s
  | .decPair p => decPair p s
  | .addSp e => addSp e s
  | .ldHlSp e => ldHlSp e s
  | .rotAcc op => rotAccumulator op s
  | .rotReg op r => rotReg op r s
  | .rotHl op => rotHl op s
  | .bitReg b r => testBitReg b r s
  | .bitHl b => testBitHl b s
  | .resReg b r => clearBitReg b r s
  | .resHl b => clearBitHl b s
  | .setReg b r => assertBitReg b r s
  | .setHl b => assertBitHl b s
  | .jp nn => jumpAbs nn s
  | .jpIf cc nn => jumpAbsIf cc nn s
  | .jpHl => jumpHl s
  | .jr e => jumpRel e s
  | .jrIf cc e => jumpRelIf cc e s
  | .call nn => callAbs nn s
  | .callIf cc nn => callAbsIf cc nn s
  | .ret => returnSub s
  | .retIf cc => returnIf cc s
  | .reti => returnEnable s
  | .rst t => restart t s
  | .push q => pushPair q s
  | .pop q => popPair q s
  | .ldSpHl => copyHlToSp s
  | .ldNnSp nn => storeSp nn s
  | .ldPair p nn => loadPair p nn s
  | .ldReg r r' => copyReg r r' s
  | .ldRegImm r n => loadRegImm r n s
  | .ldRegHl r => loadRegHl r s
  | .ldHlReg r => storeHlReg r s
  | .ldHlImm n => storeHlImm n s
  | .ldABc => loadABc s
  | .ldADe => loadADe s
  | .ldBcA => storeBcA s
  | .ldDeA => storeDeA s
  | .ldAHlInc => loadAHlInc s
  | .ldAHlDec => loadAHlDec s
  | .ldHlIncA => storeHlIncA s
  | .ldHlDecA => storeHlDecA s
  | .ldANn nn => loadANn nn s
  | .ldNnA nn => storeNnA nn s
  | .ldhAN n => loadAHigh n s
  | .ldhNA n => storeAHigh n s
  | .ldhAC => loadAHighC s
  | .ldhCA => storeAHighC s
  | .nop => noOperation s
  | .halt => haltCpu s
  | .stop => stopCpu s
  | .di => disableInterrupts s
  | .ei => enableInterrupts s
  | .cbPrefix => cbPrefix s
  | .illegal op => illegalOpcode op s

/-- Every arm of `exec` is the meaning of its instruction's shape. -/
theorem exec_eq (i : Instr) (s : State) : exec i s = execShape i.shape s := by
  cases i <;> rfl

/-- The meaning of an instruction of a given shape. -/
theorem exec_of_shape {i : Instr} {sh : Shape} (h : i.shape = sh) (s : State) : exec i s = execShape sh s :=
  h ▸ exec_eq i s

/-- The bytes of each shape, from the fields of its opcode (R120 to R127). -/
def fieldEncoding (sh : Shape) : List Byte :=
  match sh with
  | .aluReg op r => [0b10#2 ++ aluCode op ++ regCode r]
  | .aluHl op => [0b10#2 ++ aluCode op ++ 0b110#3]
  | .aluImm op n => [0b11#2 ++ aluCode op ++ 0b110#3, n]
  | .incReg r => [0b00#2 ++ regCode r ++ 0b100#3]
  | .incHl => [0x34]
  | .decReg r => [0b00#2 ++ regCode r ++ 0b101#3]
  | .decHl => [0x35]
  | .daa => [0x27]
  | .cpl => [0x2F]
  | .scf => [0x37]
  | .ccf => [0x3F]
  | .addHl p => [0b00#2 ++ pairCode p ++ 0b1001#4]
  | .incPair p => [0b00#2 ++ pairCode p ++ 0b0011#4]
  | .decPair p => [0b00#2 ++ pairCode p ++ 0b1011#4]
  | .addSp e => [0xE8, e]
  | .ldHlSp e => [0xF8, e]
  | .rotAcc op => [0b00#2 ++ rotCode op ++ 0b111#3]
  | .rotReg op r => [0xCB, 0b00#2 ++ rotCode op ++ regCode r]
  | .rotHl op => [0xCB, 0b00#2 ++ rotCode op ++ 0b110#3]
  | .bitReg b r => [0xCB, 0b01#2 ++ bitCode b ++ regCode r]
  | .bitHl b => [0xCB, 0b01#2 ++ bitCode b ++ 0b110#3]
  | .resReg b r => [0xCB, 0b10#2 ++ bitCode b ++ regCode r]
  | .resHl b => [0xCB, 0b10#2 ++ bitCode b ++ 0b110#3]
  | .setReg b r => [0xCB, 0b11#2 ++ bitCode b ++ regCode r]
  | .setHl b => [0xCB, 0b11#2 ++ bitCode b ++ 0b110#3]
  | .jp nn => [0xC3, loByte nn, hiByte nn]
  | .jpIf cc nn => [0b110#3 ++ condCode cc ++ 0b010#3, loByte nn, hiByte nn]
  | .jpHl => [0xE9]
  | .jr e => [0x18, e]
  | .jrIf cc e => [0b001#3 ++ condCode cc ++ 0b000#3, e]
  | .call nn => [0xCD, loByte nn, hiByte nn]
  | .callIf cc nn => [0b110#3 ++ condCode cc ++ 0b100#3, loByte nn, hiByte nn]
  | .ret => [0xC9]
  | .retIf cc => [0b110#3 ++ condCode cc ++ 0b000#3]
  | .reti => [0xD9]
  | .rst t => [0b11#2 ++ bitCode t ++ 0b111#3]
  | .push q => [0b11#2 ++ stackCode q ++ 0b0101#4]
  | .pop q => [0b11#2 ++ stackCode q ++ 0b0001#4]
  | .ldSpHl => [0xF9]
  | .ldNnSp nn => [0x08, loByte nn, hiByte nn]
  | .ldPair p nn => [0b00#2 ++ pairCode p ++ 0b0001#4, loByte nn, hiByte nn]
  | .ldReg r r' => [0b01#2 ++ regCode r ++ regCode r']
  | .ldRegImm r n => [0b00#2 ++ regCode r ++ 0b110#3, n]
  | .ldRegHl r => [0b01#2 ++ regCode r ++ 0b110#3]
  | .ldHlReg r => [0b01110#5 ++ regCode r]
  | .ldHlImm n => [0x36, n]
  | .ldABc => [0x0A]
  | .ldADe => [0x1A]
  | .ldBcA => [0x02]
  | .ldDeA => [0x12]
  | .ldAHlInc => [0x2A]
  | .ldAHlDec => [0x3A]
  | .ldHlIncA => [0x22]
  | .ldHlDecA => [0x32]
  | .ldANn nn => [0xFA, loByte nn, hiByte nn]
  | .ldNnA nn => [0xEA, loByte nn, hiByte nn]
  | .ldhAN n => [0xF0, n]
  | .ldhNA n => [0xE0, n]
  | .ldhAC => [0xF2]
  | .ldhCA => [0xE2]
  | .nop => [0x00]
  | .halt => [0x76]
  | .stop => [0x10, 0x00]
  | .di => [0xF3]
  | .ei => [0xFB]
  | .cbPrefix => [0xCB]
  | .illegal op => [op]

/-- Every encoding is made of its instruction's fields. -/
theorem encode_eq (i : Instr) : encode i = fieldEncoding i.shape := by
  cases i <;> rfl

theorem encode_of_shape {i : Instr} {sh : Shape} (h : i.shape = sh) : encode i = fieldEncoding sh :=
  h ▸ encode_eq i

end Sys2Proof.Machine
end

