-- ==== Sys2Proof/Laws/Step.lean ====
section
/-! SUPPORT. The step: what a tick does with the instruction it has fetched, and what every tick of every run state
is made of. -/

namespace Sys2Proof.Machine

/-- A dispatch is due exactly where IME is set and an enabled source has requested (R42). -/
theorem dispatchable_iff (s : State) :
    dispatchable s = true ↔ s.ime = true ∧ s.ie.setWidth 5 &&& s.if5 ≠ 0 := by
  simp [dispatchable, pending, enabledRequests]

/-- A running machine without a dispatch that is due: the tick of its run state, then the dispatch check (R150). -/
theorem step_running {s : State} (hf : s.fault = none) (hd : dispatchable s = false) :
    step s = endOfTick (tickBody exec s) := by
  unfold step tick
  rw [hf, hd]
  rfl

/-- A dispatch that is due at the start of a tick is the tick (R151). -/
theorem step_dispatching {s : State} (hf : s.fault = none) (hd : dispatchable s = true) :
    step s = (dispatch s).out := by
  unfold step tick
  rw [hf, hd]
  rfl

/-- A faulted machine has no step (R15). -/
theorem step_faulted {s : State} (hf : s.fault ≠ none) : step s = .refused .faultedMachine := by
  unfold step tick
  cases h : s.fault with
  | none => exact absurd h hf
  | some k => rfl

/-- A property that a dispatch, an idle cycle, a wake, a fetch and an executed instruction keep is kept by every
step. -/
theorem step_keeps {P : State → Prop} (hd : ∀ s t, P s → dispatch s = .ok () t → P t)
    (hi : ∀ s t, P s → internal s = .ok () t → P t) (hw : ∀ s, P s → P (wake s))
    (hf : ∀ bug s t i, P s → fetchInstr bug s = .ok i t → P t)
    (he : ∀ i s t bug s0, fetchInstr bug s0 = .ok i s → P s → exec i s = .next t → P t) {s t : State} (h0 : P s)
    (h : step s = .next t) : P t := by
  have run : ∀ bug s t, P s → stepInstruction exec bug s = .next t → P t := by
    intro bug s t h0 h
    unfold stepInstruction at h
    split at h
    · exact he _ _ _ _ _ ‹_› (hf _ _ _ _ h0 ‹_›) h
    · exact nomatch h
  have body : ∀ t, tickBody exec s = .next t → P t := by
    intro t h
    unfold tickBody at h
    split at h
    · exact run _ _ _ h0 h
    · exact run _ _ _ h0 h
    · split at h
      · exact run _ _ _ (hw _ h0) h
      · exact hi _ _ h0 (out_eq_next.mp h)
    · split at h
      · exact run _ _ _ (hw _ h0) h
      · exact hi _ _ h0 (out_eq_next.mp h)
  by_cases f : s.fault = none
  · by_cases d : dispatchable s = true
    · rw [step_dispatching f d] at h
      exact hd _ _ h0 (out_eq_next.mp h)
    · rw [step_running f (by simpa using d)] at h
      revert h
      generalize hb : tickBody exec s = o
      cases o with
      | next u =>
        intro h
        simp only [endOfTick] at h
        split at h
        · exact hd _ _ (body _ hb) (out_eq_next.mp h)
        · cases h
          exact body _ hb
      | fault r => exact nofun
      | refused r => exact nofun
  · rw [step_faulted f] at h
    exact nomatch h

end Sys2Proof.Machine
end

