-- ==== Sys2Proof/Laws/Fetch.lean ====
section
/-! SUPPORT. The opcode tables row by row, and what the fetch of one instruction can do. -/

namespace Sys2Proof.Machine

/-- A property of bytes, from its 256 cases. -/
theorem byte_cases {P : Byte → Prop} (h : ∀ k, k < 256 → P (BitVec.ofNat 8 k)) (b : Byte) : P b := by
  have := h b.toNat b.isLt
  simpa using this

/-- A row of the unprefixed table is right for its opcode: what it reads is well-formed, is fetched in that many
bytes, and has the encoding it is read from. -/
def RowOk (e : OpEntry) (b : Byte) : Prop :=
  match e with
  | .op i => encode i = [b] ∧ i.wellFormed = true ∧ i.fetchedBytes = 1 ∧ (i.shape == .stop) = false
  | .opN f | .opE f =>
    ∀ n, encode (f n) = [b, n] ∧ (f n).wellFormed = true ∧ (f n).fetchedBytes = 2 ∧ ((f n).shape == .stop) = false
  | .opNn f =>
    ∀ nn, encode (f nn) = [b, loByte nn, hiByte nn] ∧ (f nn).wellFormed = true ∧ (f nn).fetchedBytes = 3 ∧
      ((f nn).shape == .stop) = false
  | .cb => b = 0xCB
  | .stop => b = 0x10

theorem row_ok (b : Byte) : RowOk (opEntry b) b := by
  refine byte_cases (P := fun b => RowOk (opEntry b) b) (fun k hk => ?_) b
  interval_cases k <;> first
    | exact ⟨rfl, rfl, rfl, rfl⟩
    | exact rfl
    | exact fun _ => ⟨rfl, rfl, rfl, rfl⟩

/-- A row of the CB table is right for its opcode. -/
theorem cb_ok (c : Byte) : encode (cbEntry c) = [0xCB, c] ∧ (cbEntry c).wellFormed = true ∧
    (cbEntry c).fetchedBytes = 2 ∧ ((cbEntry c).shape == .stop) = false ∧ (cbEntry c).legal = true := by
  refine byte_cases (P := fun c => encode (cbEntry c) = [0xCB, c] ∧ (cbEntry c).wellFormed = true ∧
    (cbEntry c).fetchedBytes = 2 ∧ ((cbEntry c).shape == .stop) = false ∧ (cbEntry c).legal = true)
    (fun k hk => ?_) c
  interval_cases k <;> exact ⟨rfl, rfl, rfl, rfl, rfl⟩

/-- The fields of a CB opcode select the instruction of its row (R127). -/
theorem runCbOpcode_eq (c : Byte) (s : State) : runCbOpcode c s = exec (cbEntry c) s := by
  refine byte_cases (P := fun c => runCbOpcode c s = exec (cbEntry c) s) (fun k hk => ?_) c
  interval_cases k <;> rfl

/-- What the operand fetches read: the bytes after the opcode, one machine cycle each, and nothing else of the CPU
but PC. -/
theorem fetchOperands_spec {b : Byte} {s t : State} {i : Instr} (h : fetchOperands (opEntry b) s = .ok i t) :
    i.wellFormed = true ∧ Called (i.fetchedBytes - 1) s t ∧
      SameCpu { s with pc := s.pc + BitVec.ofNat 16 (i.fetchedBytes - 1) } t := by
  have z : s.pc + BitVec.ofNat 16 0 = s.pc := by simp
  have r := row_ok b
  revert h r
  generalize opEntry b = e
  cases e with
  | op j =>
    intro h ⟨_, r2, r3, _⟩
    cases h
    rw [r3, z]
    exact ⟨r2, .zero _, .refl _⟩
  | opN f =>
    intro h r
    obtain ⟨n, s1, h1, h2⟩ := bind_eq_ok.mp h
    cases h2
    rw [(r n).2.2.1]
    exact ⟨(r n).2.1, fetchByte_called h1, fetchByte_cpu h1⟩
  | opE f =>
    intro h r
    obtain ⟨n, s1, h1, h2⟩ := bind_eq_ok.mp h
    cases h2
    rw [(r n).2.2.1]
    exact ⟨(r n).2.1, fetchByte_called h1, fetchByte_cpu h1⟩
  | opNn f =>
    intro h r
    obtain ⟨n, s1, h1, h2⟩ := bind_eq_ok.mp h
    cases h2
    rw [(r n).2.2.1]
    exact ⟨(r n).2.1, fetchWord_called h1, fetchWord_cpu h1⟩
  | cb =>
    intro h _
    obtain ⟨n, s1, h1, h2⟩ := bind_eq_ok.mp h
    cases h2
    rw [(cb_ok n).2.2.1]
    exact ⟨(cb_ok n).2.1, fetchByte_called h1, fetchByte_cpu h1⟩
  | stop =>
    intro h _
    cases h
    refine ⟨rfl, .zero _, ?_⟩
    rw [show Instr.stop.fetchedBytes - 1 = 0 from rfl, z]
    exact .refl _

theorem fetchOpcode_cpu {bug : Bool} {s t : State} {op : Byte} (h : fetchOpcode bug s = .ok op t) :
    SameCpu { s with pc := if bug then s.pc else s.pc + 1 } t := by
  cases bug with
  | false => exact fetchByte_cpu h
  | true => exact memRead_sameCpu h

theorem fetchOpcode_called {bug : Bool} {s t : State} {op : Byte} (h : fetchOpcode bug s = .ok op t) :
    Called 1 s t := by
  cases bug with
  | false => exact fetchByte_called h
  | true => exact memRead_called h

/-- The fetch of an instruction: the EI delay resolves, the HALT bug ends, the opcode's address is kept, PC moves,
and nothing else of the CPU changes (R154 to R158). -/
theorem fetchInstr_cpu {bug : Bool} {s t : State} {i : Instr} (h : fetchInstr bug s = .ok i t) :
    ∃ pc, SameCpu { s with
      ime := s.ime || s.imePending, imePending := false, opPc := s.pc, pc := pc
      runState := if bug then .normal else s.runState } t := by
  obtain ⟨op, s1, h1, h2⟩ := bind_eq_ok.mp h
  have k := fetchOpcode_cpu h1
  have l := (fetchOperands_spec h2).2.2
  refine ⟨_, l.a.trans ?_, l.b.trans ?_, l.c.trans ?_, l.d.trans ?_, l.e.trans ?_, l.h.trans ?_, l.l.trans ?_,
    l.flags.trans ?_, l.sp.trans ?_, l.pc, l.ime.trans ?_, l.imePending.trans ?_, l.runState.trans ?_,
    l.fault.trans ?_, l.opPc.trans ?_, l.cfg.trans ?_⟩ <;>
    simp [k.a, k.b, k.c, k.d, k.e, k.h, k.l, k.flags, k.sp, k.ime, k.imePending, k.fault, k.opPc, k.cfg]
  cases bug <;> simp [endHaltBug, k.runState]

/-- Each fetched byte takes one machine cycle. -/
theorem fetchInstr_called {bug : Bool} {s t : State} {i : Instr} (h : fetchInstr bug s = .ok i t) :
    Called (1 + (i.fetchedBytes - 1)) s t := by
  obtain ⟨op, s1, h1, h2⟩ := bind_eq_ok.mp h
  have k : Called 1 s s1 := { fetchOpcode_called h1 with }
  have b : Called 0 s1 (endHaltBug bug s1) := ⟨by simp, by simp, by simp⟩
  exact k.trans (by simpa using b.trans (fetchOperands_spec h2).2.1)

theorem fetchInstr_inv (bug : Bool) {s : State} (h : s.Inv) : (fetchInstr bug s).All State.Inv := by
  have h' : (beginInstruction s).Inv := h.congr rfl rfl rfl rfl rfl
  refine Res.All.bind ?_ fun b s1 _ h1 => ?_
  · cases bug
    · exact fetchByte_inv h'
    · exact inv_closed.memRead _ h'
  · have h2 : (endHaltBug bug s1).Inv := h1.congr (by simp) (by simp) (by simp) (by simp) (by simp)
    cases opEntry b with
    | op i => exact h2
    | opN f => exact Res.All.bind (fetchByte_inv h2) fun _ _ _ h => h
    | opE f => exact Res.All.bind (fetchByte_inv h2) fun _ _ _ h => h
    | opNn f => exact Res.All.bind (fetchWord_inv h2) fun _ _ _ h => h
    | cb => exact Res.All.bind (fetchByte_inv h2) fun _ _ _ h => h
    | stop => exact h2

theorem fetchInstr_total (bug : Bool) {s : State} (hs : FullyMapped s.cfg) : ∃ i t, fetchInstr bug s = .ok i t := by
  have op : ∃ b s1, fetchOpcode bug (beginInstruction s) = .ok b s1 := by
    cases bug
    · exact fetchByte_total (s := beginInstruction s) hs
    · exact memRead_total (s := beginInstruction s) hs _
  obtain ⟨b, s1, h1⟩ := op
  have c : FullyMapped (endHaltBug bug s1).cfg := by
    rw [endHaltBug_cfg, (fetchOpcode_cpu h1).cfg]
    exact hs
  have rest : ∃ i t, fetchOperands (opEntry b) (endHaltBug bug s1) = .ok i t := by
    cases opEntry b with
    | op i => exact ⟨_, _, rfl⟩
    | stop => exact ⟨_, _, rfl⟩
    | opN f =>
      obtain ⟨v, t, h⟩ := fetchByte_total c
      exact ⟨_, _, by simp only [fetchOperands, h]; rfl⟩
    | opE f =>
      obtain ⟨v, t, h⟩ := fetchByte_total c
      exact ⟨_, _, by simp only [fetchOperands, h]; rfl⟩
    | opNn f =>
      obtain ⟨v, t, h⟩ := fetchWord_total c
      exact ⟨_, _, by simp only [fetchOperands, h]; rfl⟩
    | cb =>
      obtain ⟨v, t, h⟩ := fetchByte_total c
      exact ⟨_, _, by simp only [fetchOperands, h]; rfl⟩
  obtain ⟨i, t, h2⟩ := rest
  exact ⟨i, t, by rw [fetchInstr, h1, bind_ok, h2]⟩

end Sys2Proof.Machine
end

