-- ==== Sys2Proof/Laws/Flags.lean ====
section
/-! SUPPORT. The flag and result computations in the words of Safety.lean, and how the meanings built on one bus
access or on internal cycles have the shapes of outcome defined there. -/

namespace Sys2Proof.Machine

/-! ### Results and flags -/

/-- The 8-bit add (R190). -/
theorem add8_eq (a v : Byte) (cin : Bool) (s : State) :
    add8 a v cin = ((s.withSum a v cin).a, (s.withSum a v cin).flags) := by
  have h : BitVec.ofNat 8 (a.toNat + v.toNat + cin.toNat) = a + v + (BitVec.ofBool cin).setWidth 8 := by
    apply BitVec.eq_of_toNat_eq
    cases cin <;> simp [BitVec.toNat_add]
  have hz : ((a + v + (BitVec.ofBool cin).setWidth 8 : Byte) == 0) =
      decide ((a.toNat + v.toNat + cin.toNat) % 256 = 0) := by
    rw [← h]
    simp [beq_eq_decide, BitVec.toNat_eq]
  simp only [add8, State.withSum, h, hz]
  congr 2

/-- The 8-bit subtract (R191). -/
theorem sub8_eq (a v : Byte) (cin : Bool) :
    sub8 a v cin = (a - v - (BitVec.ofBool cin).setWidth 8, differenceFlags a v cin) := by
  have h : BitVec.ofInt 8 ((a.toNat : Int) - v.toNat - cin.toNat) = a - v - (BitVec.ofBool cin).setWidth 8 := by
    apply BitVec.eq_of_toNat_eq
    have := a.isLt
    have := v.isLt
    cases cin <;> simp [BitVec.toNat_sub, BitVec.toNat_ofInt] <;> omega
  have hz : ((a - v - (BitVec.ofBool cin).setWidth 8 : Byte) == 0) =
      decide (a = v + (BitVec.ofBool cin).setWidth 8) := by
    rw [beq_eq_decide]
    congr 1
    apply propext
    generalize (BitVec.ofBool cin).setWidth 8 = w
    constructor <;> intro h <;> bv_omega
  simp only [sub8, h, hz, differenceFlags]
  congr 2 <;> simp <;> omega

/-- The 16-bit add of `ADD HL,rr` (R240). -/
theorem add16_eq (a b : Word) (f : Flags) :
    add16 a b f = (a + b, { z := f.z, n := false, h := BitVec.carry 12 a b false, c := BitVec.carry 16 a b false }) := by
  have h : BitVec.ofNat 16 (a.toNat + b.toNat) = a + b := by
    apply BitVec.eq_of_toNat_eq
    simp [BitVec.toNat_add]
  simp only [add16, h, BitVec.carry]
  congr 2 <;> simp
  omega

/-- The signed add to SP (R241, R245). -/
theorem addE8_eq (b : Word) (e : Byte) : addE8 b e = (b + e.signExtend 16,
    { z := false, n := false, h := BitVec.carry 4 (b.setWidth 8) e false
      c := BitVec.carry 8 (b.setWidth 8) e false }) := by
  have h : BitVec.ofInt 16 ((b.toNat : Int) + e.toInt) = b + e.signExtend 16 := by
    rw [BitVec.signExtend, BitVec.ofInt_add]
    simp
  simp only [addE8, h, BitVec.carry]
  congr 2 <;> simp
  · omega
  · omega

/-- The rotates and shifts (R255). -/
theorem rot_eq (op : RotOp) (v : Byte) (c : Bool) : rot op v c = (rotated op v c, rotatedOut op v) := by
  revert v
  cases op <;> cases c <;> decide

/-- RES clears its bit (R292). -/
theorem bitMade_resBit (b : Fin 8) (v : Byte) : BitMade b false v (resBit b v) := by
  have one : ∀ k, k < 8 → ((1 : Byte) <<< b.val).getLsbD k = decide (k = b.val) := by
    intro k hk
    revert b
    interval_cases k <;> decide
  intro k hk
  rw [resBit, BitVec.getLsbD_and, BitVec.getLsbD_not, one k hk]
  by_cases h : k = b.val <;> simp [h, hk]

/-- SET sets its bit (R294). -/
theorem bitMade_setBit (b : Fin 8) (v : Byte) : BitMade b true v (setBit b v) := by
  have one : ∀ k, k < 8 → ((1 : Byte) <<< b.val).getLsbD k = decide (k = b.val) := by
    intro k hk
    revert b
    interval_cases k <;> decide
  intro k hk
  rw [setBit, BitVec.getLsbD_or, one k hk]
  by_cases h : k = b.val <;> simp [h]

/-! ### Shapes of outcome -/

theorem internals_one (s : State) : internals 1 s = internal s := by
  unfold internals
  cases h : internal s <;> simp [internals]

theorem readsThen_of_bind {a : Word} {s : State} {o : Out} {f g : Byte → State → State}
    (h : o = ((memRead a s).bind fun v t => .ok () (g v t)).out) (hg : ∀ v t, SameCpu s t → g v t = f v t) :
    ReadsThen a s o f := by
  subst h
  exact ⟨fun v t e => by rw [e, bind_ok, hg v t (memRead_sameCpu e)]; rfl, fun k t e => by rw [e]; rfl⟩

theorem writesThen_of_bind {a : Word} {v : Byte} {s : State} {o : Out} {f g : State → State}
    (h : o = ((memWrite a v s).bind fun _ t => .ok () (g t)).out) (hg : ∀ t, SameCpu s t → g t = f t) :
    WritesThen a v s o f := by
  subst h
  exact ⟨fun t e => by rw [e, bind_ok, hg t (memWrite_sameCpu e)]; rfl, fun k t e => by rw [e]; rfl⟩

theorem waitsThen_of_bind {n : Nat} {s : State} {o : Out} {f g : State → State}
    (h : o = ((internals n s).bind fun _ t => .ok () (g t)).out) (hg : ∀ t, SameCpu s t → g t = f t) :
    WaitsThen n s o f := by
  subst h
  exact ⟨fun t e => by rw [e, bind_ok, hg t (internals_sameCpu e)]; rfl, fun k t e => by rw [e]; rfl⟩

/-- The shared read-modify-write operation on the byte at HL (R92, R218). -/
theorem modifiesThen_modifyHl {f : Byte → Flags → Byte × Flags} {s : State} {o : Out} {g : Byte → Byte}
    {h : Byte → Flags} (e : o = modifyHl f s) (hf : ∀ v, f v s.flags = (g v, h v)) :
    ModifiesThen s.hl s o g fun v t => { t with flags := h v } := by
  subst e
  refine ⟨fun v t ht => ?_, fun k t ht => by rw [modifyHl, ht]; rfl⟩
  have k := memRead_sameCpu ht
  refine writesThen_of_bind (g := fun t => { t with flags := h v }) ?_ fun _ _ => rfl
  rw [modifyHl, ht, bind_ok, k.flags, hf, k.hl]

end Sys2Proof.Machine
end

