-- ==== Sys2Proof/Laws/PerInstr.lean ====
section
/-! SUPPORT. The round trip of decoding and encoding, one lemma per instruction: an encoded well-formed
instruction decodes to itself, whatever bytes follow it. -/

namespace Sys2Proof.Laws

/-- The two bytes of a 16-bit immediate give it back (R124). -/
theorem word_of_bytes (nn : Word) : (nn.extractLsb' 8 8 ++ nn.extractLsb' 0 8 : Word) = nn := by
  apply BitVec.eq_of_getLsbD_eq
  intro i hi
  simp only [BitVec.getLsbD_append, BitVec.getLsbD_extractLsb']
  by_cases h : i < 8
  · simp [h]
  · simp [h, show i - 8 < 8 by omega, show 8 + (i - 8) = i by omega]

/-- An encoded well-formed instruction decodes to itself and to the bytes after it. -/
def RoundTrip.Statement (i : Instr) : Prop :=
  i.wellFormed = true → ∀ rest : List Byte, decode (encode i ++ rest) = .ok (i, rest)

/-- A row with no operand to assemble: the decoder computes to it. -/
theorem RoundTrip.of_rfl {i : Instr} (h : ∀ rest : List Byte, decode (encode i ++ rest) = .ok (i, rest)) :
    RoundTrip.Statement i := fun _ => h

/-- A row with a 16-bit immediate. -/
theorem RoundTrip.of_word {f : Word → Instr} {nn : Word}
    (h : ∀ rest : List Byte, decode (encode (f nn) ++ rest) =
      .ok (f (nn.extractLsb' 8 8 ++ nn.extractLsb' 0 8), rest)) :
    RoundTrip.Statement (f nn) := fun _ rest => by
  have e : f (nn.extractLsb' 8 8 ++ nn.extractLsb' 0 8) = f nn := congrArg f (word_of_bytes nn)
  rw [h rest, e]

theorem RoundTrip.nop : RoundTrip.Statement .nop := RoundTrip.of_rfl fun _ => rfl
theorem RoundTrip.ldBcNn (nn : Word) : RoundTrip.Statement (.ldBcNn nn) := RoundTrip.of_word (f := .ldBcNn) fun _ => rfl
theorem RoundTrip.ldIndBcA : RoundTrip.Statement .ldIndBcA := RoundTrip.of_rfl fun _ => rfl
theorem RoundTrip.incBc : RoundTrip.Statement .incBc := RoundTrip.of_rfl fun _ => rfl
theorem RoundTrip.incB : RoundTrip.Statement .incB := RoundTrip.of_rfl fun _ => rfl
theorem RoundTrip.decB : RoundTrip.Statement .decB := RoundTrip.of_rfl fun _ => rfl
theorem RoundTrip.ldBN (n : Byte) : RoundTrip.Statement (.ldBN n) := RoundTrip.of_rfl fun _ => rfl
theorem RoundTrip.rlca : RoundTrip.Statement .rlca := RoundTrip.of_rfl fun _ => rfl
theorem RoundTrip.ldIndNnSp (nn : Word) : RoundTrip.Statement (.ldIndNnSp nn) := RoundTrip.of_word (f := .ldIndNnSp) fun _ => rfl
theorem RoundTrip.addHlBc : RoundTrip.Statement .addHlBc := RoundTrip.of_rfl fun _ => rfl
theorem RoundTrip.ldAIndBc : RoundTrip.Statement .ldAIndBc := RoundTrip.of_rfl fun _ => rfl
theorem RoundTrip.decBc : RoundTrip.Statement .decBc := RoundTrip.of_rfl fun _ => rfl
theorem RoundTrip.incC : RoundTrip.Statement .incC := RoundTrip.of_rfl fun _ => rfl
theorem RoundTrip.decC : RoundTrip.Statement .decC := RoundTrip.of_rfl fun _ => rfl
theorem RoundTrip.ldCN (n : Byte) : RoundTrip.Statement (.ldCN n) := RoundTrip.of_rfl fun _ => rfl
theorem RoundTrip.rrca : RoundTrip.Statement .rrca := RoundTrip.of_rfl fun _ => rfl
theorem RoundTrip.stop : RoundTrip.Statement .stop := RoundTrip.of_rfl fun _ => rfl
theorem RoundTrip.ldDeNn (nn : Word) : RoundTrip.Statement (.ldDeNn nn) := RoundTrip.of_word (f := .ldDeNn) fun _ => rfl
theorem RoundTrip.ldIndDeA : RoundTrip.Statement .ldIndDeA := RoundTrip.of_rfl fun _ => rfl
theorem RoundTrip.incDe : RoundTrip.Statement .incDe := RoundTrip.of_rfl fun _ => rfl
theorem RoundTrip.incD : RoundTrip.Statement .incD := RoundTrip.of_rfl fun _ => rfl
theorem RoundTrip.decD : RoundTrip.Statement .decD := RoundTrip.of_rfl fun _ => rfl
theorem RoundTrip.ldDN (n : Byte) : RoundTrip.Statement (.ldDN n) := RoundTrip.of_rfl fun _ => rfl
theorem RoundTrip.rla : RoundTrip.Statement .rla := RoundTrip.of_rfl fun _ => rfl
theorem RoundTrip.jrE (e : Byte) : RoundTrip.Statement (.jrE e) := RoundTrip.of_rfl fun _ => rfl
theorem RoundTrip.addHlDe : RoundTrip.Statement .addHlDe := RoundTrip.of_rfl fun _ => rfl
theorem RoundTrip.ldAIndDe : RoundTrip.Statement .ldAIndDe := RoundTrip.of_rfl fun _ => rfl
theorem RoundTrip.decDe : RoundTrip.Statement .decDe := RoundTrip.of_rfl fun _ => rfl
theorem RoundTrip.incE : RoundTrip.Statement .incE := RoundTrip.of_rfl fun _ => rfl
theorem RoundTrip.decE : RoundTrip.Statement .decE := RoundTrip.of_rfl fun _ => rfl
theorem RoundTrip.ldEN (n : Byte) : RoundTrip.Statement (.ldEN n) := RoundTrip.of_rfl fun _ => rfl
theorem RoundTrip.rra : RoundTrip.Statement .rra := RoundTrip.of_rfl fun _ => rfl
theorem RoundTrip.jrNzE (e : Byte) : RoundTrip.Statement (.jrNzE e) := RoundTrip.of_rfl fun _ => rfl
theorem RoundTrip.ldHlNn (nn : Word) : RoundTrip.Statement (.ldHlNn nn) := RoundTrip.of_word (f := .ldHlNn) fun _ => rfl
theorem RoundTrip.ldIndHlIncA : RoundTrip.Statement .ldIndHlIncA := RoundTrip.of_rfl fun _ => rfl
theorem RoundTrip.incHl : RoundTrip.Statement .incHl := RoundTrip.of_rfl fun _ => rfl
theorem RoundTrip.incH : RoundTrip.Statement .incH := RoundTrip.of_rfl fun _ => rfl
theorem RoundTrip.decH : RoundTrip.Statement .decH := RoundTrip.of_rfl fun _ => rfl
theorem RoundTrip.ldHN (n : Byte) : RoundTrip.Statement (.ldHN n) := RoundTrip.of_rfl fun _ => rfl
theorem RoundTrip.daa : RoundTrip.Statement .daa := RoundTrip.of_rfl fun _ => rfl
theorem RoundTrip.jrZE (e : Byte) : RoundTrip.Statement (.jrZE e) := RoundTrip.of_rfl fun _ => rfl
theorem RoundTrip.addHlHl : RoundTrip.Statement .addHlHl := RoundTrip.of_rfl fun _ => rfl
theorem RoundTrip.ldAIndHlInc : RoundTrip.Statement .ldAIndHlInc := RoundTrip.of_rfl fun _ => rfl
theorem RoundTrip.decHl : RoundTrip.Statement .decHl := RoundTrip.of_rfl fun _ => rfl
theorem RoundTrip.incL : RoundTrip.Statement .incL := RoundTrip.of_rfl fun _ => rfl
theorem RoundTrip.decL : RoundTrip.Statement .decL := RoundTrip.of_rfl fun _ => rfl
theorem RoundTrip.ldLN (n : Byte) : RoundTrip.Statement (.ldLN n) := RoundTrip.of_rfl fun _ => rfl
theorem RoundTrip.cpl : RoundTrip.Statement .cpl := RoundTrip.of_rfl fun _ => rfl
theorem RoundTrip.jrNcE (e : Byte) : RoundTrip.Statement (.jrNcE e) := RoundTrip.of_rfl fun _ => rfl
theorem RoundTrip.ldSpNn (nn : Word) : RoundTrip.Statement (.ldSpNn nn) := RoundTrip.of_word (f := .ldSpNn) fun _ => rfl
theorem RoundTrip.ldIndHlDecA : RoundTrip.Statement .ldIndHlDecA := RoundTrip.of_rfl fun _ => rfl
theorem RoundTrip.incSp : RoundTrip.Statement .incSp := RoundTrip.of_rfl fun _ => rfl
theorem RoundTrip.incIndHl : RoundTrip.Statement .incIndHl := RoundTrip.of_rfl fun _ => rfl
theorem RoundTrip.decIndHl : RoundTrip.Statement .decIndHl := RoundTrip.of_rfl fun _ => rfl
theorem RoundTrip.ldIndHlN (n : Byte) : RoundTrip.Statement (.ldIndHlN n) := RoundTrip.of_rfl fun _ => rfl
theorem RoundTrip.scf : RoundTrip.Statement .scf := RoundTrip.of_rfl fun _ => rfl
theorem RoundTrip.jrCE (e : Byte) : RoundTrip.Statement (.jrCE e) := RoundTrip.of_rfl fun _ => rfl
theorem RoundTrip.addHlSp : RoundTrip.Statement .addHlSp := RoundTrip.of_rfl fun _ => rfl
theorem RoundTrip.ldAIndHlDec : RoundTrip.Statement .ldAIndHlDec := RoundTrip.of_rfl fun _ => rfl
theorem RoundTrip.decSp : RoundTrip.Statement .decSp := RoundTrip.of_rfl fun _ => rfl
theorem RoundTrip.incA : RoundTrip.Statement .incA := RoundTrip.of_rfl fun _ => rfl
theorem RoundTrip.decA : RoundTrip.Statement .decA := RoundTrip.of_rfl fun _ => rfl
theorem RoundTrip.ldAN (n : Byte) : RoundTrip.Statement (.ldAN n) := RoundTrip.of_rfl fun _ => rfl
theorem RoundTrip.ccf : RoundTrip.Statement .ccf := RoundTrip.of_rfl fun _ => rfl
theorem RoundTrip.ldBB : RoundTrip.Statement .ldBB := RoundTrip.of_rfl fun _ => rfl
theorem RoundTrip.ldBC : RoundTrip.Statement .ldBC := RoundTrip.of_rfl fun _ => rfl
theorem RoundTrip.ldBD : RoundTrip.Statement .ldBD := RoundTrip.of_rfl fun _ => rfl
theorem RoundTrip.ldBE : RoundTrip.Statement .ldBE := RoundTrip.of_rfl fun _ => rfl
theorem RoundTrip.ldBH : RoundTrip.Statement .ldBH := RoundTrip.of_rfl fun _ => rfl
theorem RoundTrip.ldBL : RoundTrip.Statement .ldBL := RoundTrip.of_rfl fun _ => rfl
theorem RoundTrip.ldBIndHl : RoundTrip.Statement .ldBIndHl := RoundTrip.of_rfl fun _ => rfl
theorem RoundTrip.ldBA : RoundTrip.Statement .ldBA := RoundTrip.of_rfl fun _ => rfl
theorem RoundTrip.ldCB : RoundTrip.Statement .ldCB := RoundTrip.of_rfl fun _ => rfl
theorem RoundTrip.ldCC : RoundTrip.Statement .ldCC := RoundTrip.of_rfl fun _ => rfl
theorem RoundTrip.ldCD : RoundTrip.Statement .ldCD := RoundTrip.of_rfl fun _ => rfl
theorem RoundTrip.ldCE : RoundTrip.Statement .ldCE := RoundTrip.of_rfl fun _ => rfl
theorem RoundTrip.ldCH : RoundTrip.Statement .ldCH := RoundTrip.of_rfl fun _ => rfl
theorem RoundTrip.ldCL : RoundTrip.Statement .ldCL := RoundTrip.of_rfl fun _ => rfl
theorem RoundTrip.ldCIndHl : RoundTrip.Statement .ldCIndHl := RoundTrip.of_rfl fun _ => rfl
theorem RoundTrip.ldCA : RoundTrip.Statement .ldCA := RoundTrip.of_rfl fun _ => rfl
theorem RoundTrip.ldDB : RoundTrip.Statement .ldDB := RoundTrip.of_rfl fun _ => rfl
theorem RoundTrip.ldDC : RoundTrip.Statement .ldDC := RoundTrip.of_rfl fun _ => rfl
theorem RoundTrip.ldDD : RoundTrip.Statement .ldDD := RoundTrip.of_rfl fun _ => rfl
theorem RoundTrip.ldDE : RoundTrip.Statement .ldDE := RoundTrip.of_rfl fun _ => rfl
theorem RoundTrip.ldDH : RoundTrip.Statement .ldDH := RoundTrip.of_rfl fun _ => rfl
theorem RoundTrip.ldDL : RoundTrip.Statement .ldDL := RoundTrip.of_rfl fun _ => rfl
theorem RoundTrip.ldDIndHl : RoundTrip.Statement .ldDIndHl := RoundTrip.of_rfl fun _ => rfl
theorem RoundTrip.ldDA : RoundTrip.Statement .ldDA := RoundTrip.of_rfl fun _ => rfl
theorem RoundTrip.ldEB : RoundTrip.Statement .ldEB := RoundTrip.of_rfl fun _ => rfl
theorem RoundTrip.ldEC : RoundTrip.Statement .ldEC := RoundTrip.of_rfl fun _ => rfl
theorem RoundTrip.ldED : RoundTrip.Statement .ldED := RoundTrip.of_rfl fun _ => rfl
theorem RoundTrip.ldEE : RoundTrip.Statement .ldEE := RoundTrip.of_rfl fun _ => rfl
theorem RoundTrip.ldEH : RoundTrip.Statement .ldEH := RoundTrip.of_rfl fun _ => rfl
theorem RoundTrip.ldEL : RoundTrip.Statement .ldEL := RoundTrip.of_rfl fun _ => rfl
theorem RoundTrip.ldEIndHl : RoundTrip.Statement .ldEIndHl := RoundTrip.of_rfl fun _ => rfl
theorem RoundTrip.ldEA : RoundTrip.Statement .ldEA := RoundTrip.of_rfl fun _ => rfl
theorem RoundTrip.ldHB : RoundTrip.Statement .ldHB := RoundTrip.of_rfl fun _ => rfl
theorem RoundTrip.ldHC : RoundTrip.Statement .ldHC := RoundTrip.of_rfl fun _ => rfl
theorem RoundTrip.ldHD : RoundTrip.Statement .ldHD := RoundTrip.of_rfl fun _ => rfl
theorem RoundTrip.ldHE : RoundTrip.Statement .ldHE := RoundTrip.of_rfl fun _ => rfl
theorem RoundTrip.ldHH : RoundTrip.Statement .ldHH := RoundTrip.of_rfl fun _ => rfl
theorem RoundTrip.ldHL : RoundTrip.Statement .ldHL := RoundTrip.of_rfl fun _ => rfl
theorem RoundTrip.ldHIndHl : RoundTrip.Statement .ldHIndHl := RoundTrip.of_rfl fun _ => rfl
theorem RoundTrip.ldHA : RoundTrip.Statement .ldHA := RoundTrip.of_rfl fun _ => rfl
theorem RoundTrip.ldLB : RoundTrip.Statement .ldLB := RoundTrip.of_rfl fun _ => rfl
theorem RoundTrip.ldLC : RoundTrip.Statement .ldLC := RoundTrip.of_rfl fun _ => rfl
theorem RoundTrip.ldLD : RoundTrip.Statement .ldLD := RoundTrip.of_rfl fun _ => rfl
theorem RoundTrip.ldLE : RoundTrip.Statement .ldLE := RoundTrip.of_rfl fun _ => rfl
theorem RoundTrip.ldLH : RoundTrip.Statement .ldLH := RoundTrip.of_rfl fun _ => rfl
theorem RoundTrip.ldLL : RoundTrip.Statement .ldLL := RoundTrip.of_rfl fun _ => rfl
theorem RoundTrip.ldLIndHl : RoundTrip.Statement .ldLIndHl := RoundTrip.of_rfl fun _ => rfl
theorem RoundTrip.ldLA : RoundTrip.Statement .ldLA := RoundTrip.of_rfl fun _ => rfl
theorem RoundTrip.ldIndHlB : RoundTrip.Statement .ldIndHlB := RoundTrip.of_rfl fun _ => rfl
theorem RoundTrip.ldIndHlC : RoundTrip.Statement .ldIndHlC := RoundTrip.of_rfl fun _ => rfl
theorem RoundTrip.ldIndHlD : RoundTrip.Statement .ldIndHlD := RoundTrip.of_rfl fun _ => rfl
theorem RoundTrip.ldIndHlE : RoundTrip.Statement .ldIndHlE := RoundTrip.of_rfl fun _ => rfl
theorem RoundTrip.ldIndHlH : RoundTrip.Statement .ldIndHlH := RoundTrip.of_rfl fun _ => rfl
theorem RoundTrip.ldIndHlL : RoundTrip.Statement .ldIndHlL := RoundTrip.of_rfl fun _ => rfl
theorem RoundTrip.halt : RoundTrip.Statement .halt := RoundTrip.of_rfl fun _ => rfl
theorem RoundTrip.ldIndHlA : RoundTrip.Statement .ldIndHlA := RoundTrip.of_rfl fun _ => rfl
theorem RoundTrip.ldAB : RoundTrip.Statement .ldAB := RoundTrip.of_rfl fun _ => rfl
theorem RoundTrip.ldAC : RoundTrip.Statement .ldAC := RoundTrip.of_rfl fun _ => rfl
theorem RoundTrip.ldAD : RoundTrip.Statement .ldAD := RoundTrip.of_rfl fun _ => rfl
theorem RoundTrip.ldAE : RoundTrip.Statement .ldAE := RoundTrip.of_rfl fun _ => rfl
theorem RoundTrip.ldAH : RoundTrip.Statement .ldAH := RoundTrip.of_rfl fun _ => rfl
theorem RoundTrip.ldAL : RoundTrip.Statement .ldAL := RoundTrip.of_rfl fun _ => rfl
theorem RoundTrip.ldAIndHl : RoundTrip.Statement .ldAIndHl := RoundTrip.of_rfl fun _ => rfl
theorem RoundTrip.ldAA : RoundTrip.Statement .ldAA := RoundTrip.of_rfl fun _ => rfl
theorem RoundTrip.addAB : RoundTrip.Statement .addAB := RoundTrip.of_rfl fun _ => rfl
theorem RoundTrip.addAC : RoundTrip.Statement .addAC := RoundTrip.of_rfl fun _ => rfl
theorem RoundTrip.addAD : RoundTrip.Statement .addAD := RoundTrip.of_rfl fun _ => rfl
theorem RoundTrip.addAE : RoundTrip.Statement .addAE := RoundTrip.of_rfl fun _ => rfl
theorem RoundTrip.addAH : RoundTrip.Statement .addAH := RoundTrip.of_rfl fun _ => rfl
theorem RoundTrip.addAL : RoundTrip.Statement .addAL := RoundTrip.of_rfl fun _ => rfl
theorem RoundTrip.addAIndHl : RoundTrip.Statement .addAIndHl := RoundTrip.of_rfl fun _ => rfl
theorem RoundTrip.addAA : RoundTrip.Statement .addAA := RoundTrip.of_rfl fun _ => rfl
theorem RoundTrip.adcAB : RoundTrip.Statement .adcAB := RoundTrip.of_rfl fun _ => rfl
theorem RoundTrip.adcAC : RoundTrip.Statement .adcAC := RoundTrip.of_rfl fun _ => rfl
theorem RoundTrip.adcAD : RoundTrip.Statement .adcAD := RoundTrip.of_rfl fun _ => rfl
theorem RoundTrip.adcAE : RoundTrip.Statement .adcAE := RoundTrip.of_rfl fun _ => rfl
theorem RoundTrip.adcAH : RoundTrip.Statement .adcAH := RoundTrip.of_rfl fun _ => rfl
theorem RoundTrip.adcAL : RoundTrip.Statement .adcAL := RoundTrip.of_rfl fun _ => rfl
theorem RoundTrip.adcAIndHl : RoundTrip.Statement .adcAIndHl := RoundTrip.of_rfl fun _ => rfl
theorem RoundTrip.adcAA : RoundTrip.Statement .adcAA := RoundTrip.of_rfl fun _ => rfl
theorem RoundTrip.subB : RoundTrip.Statement .subB := RoundTrip.of_rfl fun _ => rfl
theorem RoundTrip.subC : RoundTrip.Statement .subC := RoundTrip.of_rfl fun _ => rfl
theorem RoundTrip.subD : RoundTrip.Statement .subD := RoundTrip.of_rfl fun _ => rfl
theorem RoundTrip.subE : RoundTrip.Statement .subE := RoundTrip.of_rfl fun _ => rfl
theorem RoundTrip.subH : RoundTrip.Statement .subH := RoundTrip.of_rfl fun _ => rfl
theorem RoundTrip.subL : RoundTrip.Statement .subL := RoundTrip.of_rfl fun _ => rfl
theorem RoundTrip.subIndHl : RoundTrip.Statement .subIndHl := RoundTrip.of_rfl fun _ => rfl
theorem RoundTrip.subA : RoundTrip.Statement .subA := RoundTrip.of_rfl fun _ => rfl
theorem RoundTrip.sbcAB : RoundTrip.Statement .sbcAB := RoundTrip.of_rfl fun _ => rfl
theorem RoundTrip.sbcAC : RoundTrip.Statement .sbcAC := RoundTrip.of_rfl fun _ => rfl
theorem RoundTrip.sbcAD : RoundTrip.Statement .sbcAD := RoundTrip.of_rfl fun _ => rfl
theorem RoundTrip.sbcAE : RoundTrip.Statement .sbcAE := RoundTrip.of_rfl fun _ => rfl
theorem RoundTrip.sbcAH : RoundTrip.Statement .sbcAH := RoundTrip.of_rfl fun _ => rfl
theorem RoundTrip.sbcAL : RoundTrip.Statement .sbcAL := RoundTrip.of_rfl fun _ => rfl
theorem RoundTrip.sbcAIndHl : RoundTrip.Statement .sbcAIndHl := RoundTrip.of_rfl fun _ => rfl
theorem RoundTrip.sbcAA : RoundTrip.Statement .sbcAA := RoundTrip.of_rfl fun _ => rfl
theorem RoundTrip.andB : RoundTrip.Statement .andB := RoundTrip.of_rfl fun _ => rfl
theorem RoundTrip.andC : RoundTrip.Statement .andC := RoundTrip.of_rfl fun _ => rfl
theorem RoundTrip.andD : RoundTrip.Statement .andD := RoundTrip.of_rfl fun _ => rfl
theorem RoundTrip.andE : RoundTrip.Statement .andE := RoundTrip.of_rfl fun _ => rfl
theorem RoundTrip.andH : RoundTrip.Statement .andH := RoundTrip.of_rfl fun _ => rfl
theorem RoundTrip.andL : RoundTrip.Statement .andL := RoundTrip.of_rfl fun _ => rfl
theorem RoundTrip.andIndHl : RoundTrip.Statement .andIndHl := RoundTrip.of_rfl fun _ => rfl
theorem RoundTrip.andA : RoundTrip.Statement .andA := RoundTrip.of_rfl fun _ => rfl
theorem RoundTrip.xorB : RoundTrip.Statement .xorB := RoundTrip.of_rfl fun _ => rfl
theorem RoundTrip.xorC : RoundTrip.Statement .xorC := RoundTrip.of_rfl fun _ => rfl
theorem RoundTrip.xorD : RoundTrip.Statement .xorD := RoundTrip.of_rfl fun _ => rfl
theorem RoundTrip.xorE : RoundTrip.Statement .xorE := RoundTrip.of_rfl fun _ => rfl
theorem RoundTrip.xorH : RoundTrip.Statement .xorH := RoundTrip.of_rfl fun _ => rfl
theorem RoundTrip.xorL : RoundTrip.Statement .xorL := RoundTrip.of_rfl fun _ => rfl
theorem RoundTrip.xorIndHl : RoundTrip.Statement .xorIndHl := RoundTrip.of_rfl fun _ => rfl
theorem RoundTrip.xorA : RoundTrip.Statement .xorA := RoundTrip.of_rfl fun _ => rfl
theorem RoundTrip.orB : RoundTrip.Statement .orB := RoundTrip.of_rfl fun _ => rfl
theorem RoundTrip.orC : RoundTrip.Statement .orC := RoundTrip.of_rfl fun _ => rfl
theorem RoundTrip.orD : RoundTrip.Statement .orD := RoundTrip.of_rfl fun _ => rfl
theorem RoundTrip.orE : RoundTrip.Statement .orE := RoundTrip.of_rfl fun _ => rfl
theorem RoundTrip.orH : RoundTrip.Statement .orH := RoundTrip.of_rfl fun _ => rfl
theorem RoundTrip.orL : RoundTrip.Statement .orL := RoundTrip.of_rfl fun _ => rfl
theorem RoundTrip.orIndHl : RoundTrip.Statement .orIndHl := RoundTrip.of_rfl fun _ => rfl
theorem RoundTrip.orA : RoundTrip.Statement .orA := RoundTrip.of_rfl fun _ => rfl
theorem RoundTrip.cpB : RoundTrip.Statement .cpB := RoundTrip.of_rfl fun _ => rfl
theorem RoundTrip.cpC : RoundTrip.Statement .cpC := RoundTrip.of_rfl fun _ => rfl
theorem RoundTrip.cpD : RoundTrip.Statement .cpD := RoundTrip.of_rfl fun _ => rfl
theorem RoundTrip.cpE : RoundTrip.Statement .cpE := RoundTrip.of_rfl fun _ => rfl
theorem RoundTrip.cpH : RoundTrip.Statement .cpH := RoundTrip.of_rfl fun _ => rfl
theorem RoundTrip.cpL : RoundTrip.Statement .cpL := RoundTrip.of_rfl fun _ => rfl
theorem RoundTrip.cpIndHl : RoundTrip.Statement .cpIndHl := RoundTrip.of_rfl fun _ => rfl
theorem RoundTrip.cpA : RoundTrip.Statement .cpA := RoundTrip.of_rfl fun _ => rfl
theorem RoundTrip.retNz : RoundTrip.Statement .retNz := RoundTrip.of_rfl fun _ => rfl
theorem RoundTrip.popBc : RoundTrip.Statement .popBc := RoundTrip.of_rfl fun _ => rfl
theorem RoundTrip.jpNzNn (nn : Word) : RoundTrip.Statement (.jpNzNn nn) := RoundTrip.of_word (f := .jpNzNn) fun _ => rfl
theorem RoundTrip.jpNn (nn : Word) : RoundTrip.Statement (.jpNn nn) := RoundTrip.of_word (f := .jpNn) fun _ => rfl
theorem RoundTrip.callNzNn (nn : Word) : RoundTrip.Statement (.callNzNn nn) := RoundTrip.of_word (f := .callNzNn) fun _ => rfl
theorem RoundTrip.pushBc : RoundTrip.Statement .pushBc := RoundTrip.of_rfl fun _ => rfl
theorem RoundTrip.addAN (n : Byte) : RoundTrip.Statement (.addAN n) := RoundTrip.of_rfl fun _ => rfl
theorem RoundTrip.rst00 : RoundTrip.Statement .rst00 := RoundTrip.of_rfl fun _ => rfl
theorem RoundTrip.retZ : RoundTrip.Statement .retZ := RoundTrip.of_rfl fun _ => rfl
theorem RoundTrip.ret : RoundTrip.Statement .ret := RoundTrip.of_rfl fun _ => rfl
theorem RoundTrip.jpZNn (nn : Word) : RoundTrip.Statement (.jpZNn nn) := RoundTrip.of_word (f := .jpZNn) fun _ => rfl
theorem RoundTrip.cbPrefix : RoundTrip.Statement .cbPrefix := fun h => absurd h (by decide)
theorem RoundTrip.callZNn (nn : Word) : RoundTrip.Statement (.callZNn nn) := RoundTrip.of_word (f := .callZNn) fun _ => rfl
theorem RoundTrip.callNn (nn : Word) : RoundTrip.Statement (.callNn nn) := RoundTrip.of_word (f := .callNn) fun _ => rfl
theorem RoundTrip.adcAN (n : Byte) : RoundTrip.Statement (.adcAN n) := RoundTrip.of_rfl fun _ => rfl
theorem RoundTrip.rst08 : RoundTrip.Statement .rst08 := RoundTrip.of_rfl fun _ => rfl
theorem RoundTrip.retNc : RoundTrip.Statement .retNc := RoundTrip.of_rfl fun _ => rfl
theorem RoundTrip.popDe : RoundTrip.Statement .popDe := RoundTrip.of_rfl fun _ => rfl
theorem RoundTrip.jpNcNn (nn : Word) : RoundTrip.Statement (.jpNcNn nn) := RoundTrip.of_word (f := .jpNcNn) fun _ => rfl
theorem RoundTrip.illegalD3 : RoundTrip.Statement .illegalD3 := RoundTrip.of_rfl fun _ => rfl
theorem RoundTrip.callNcNn (nn : Word) : RoundTrip.Statement (.callNcNn nn) := RoundTrip.of_word (f := .callNcNn) fun _ => rfl
theorem RoundTrip.pushDe : RoundTrip.Statement .pushDe := RoundTrip.of_rfl fun _ => rfl
theorem RoundTrip.subN (n : Byte) : RoundTrip.Statement (.subN n) := RoundTrip.of_rfl fun _ => rfl
theorem RoundTrip.rst10 : RoundTrip.Statement .rst10 := RoundTrip.of_rfl fun _ => rfl
theorem RoundTrip.retC : RoundTrip.Statement .retC := RoundTrip.of_rfl fun _ => rfl
theorem RoundTrip.reti : RoundTrip.Statement .reti := RoundTrip.of_rfl fun _ => rfl
theorem RoundTrip.jpCNn (nn : Word) : RoundTrip.Statement (.jpCNn nn) := RoundTrip.of_word (f := .jpCNn) fun _ => rfl
theorem RoundTrip.illegalDB : RoundTrip.Statement .illegalDB := RoundTrip.of_rfl fun _ => rfl
theorem RoundTrip.callCNn (nn : Word) : RoundTrip.Statement (.callCNn nn) := RoundTrip.of_word (f := .callCNn) fun _ => rfl
theorem RoundTrip.illegalDD : RoundTrip.Statement .illegalDD := RoundTrip.of_rfl fun _ => rfl
theorem RoundTrip.sbcAN (n : Byte) : RoundTrip.Statement (.sbcAN n) := RoundTrip.of_rfl fun _ => rfl
theorem RoundTrip.rst18 : RoundTrip.Statement .rst18 := RoundTrip.of_rfl fun _ => rfl
theorem RoundTrip.ldhIndNA (n : Byte) : RoundTrip.Statement (.ldhIndNA n) := RoundTrip.of_rfl fun _ => rfl
theorem RoundTrip.popHl : RoundTrip.Statement .popHl := RoundTrip.of_rfl fun _ => rfl
theorem RoundTrip.ldhIndCA : RoundTrip.Statement .ldhIndCA := RoundTrip.of_rfl fun _ => rfl
theorem RoundTrip.illegalE3 : RoundTrip.Statement .illegalE3 := RoundTrip.of_rfl fun _ => rfl
theorem RoundTrip.illegalE4 : RoundTrip.Statement .illegalE4 := RoundTrip.of_rfl fun _ => rfl
theorem RoundTrip.pushHl : RoundTrip.Statement .pushHl := RoundTrip.of_rfl fun _ => rfl
theorem RoundTrip.andN (n : Byte) : RoundTrip.Statement (.andN n) := RoundTrip.of_rfl fun _ => rfl
theorem RoundTrip.rst20 : RoundTrip.Statement .rst20 := RoundTrip.of_rfl fun _ => rfl
theorem RoundTrip.addSpE (e : Byte) : RoundTrip.Statement (.addSpE e) := RoundTrip.of_rfl fun _ => rfl
theorem RoundTrip.jpHl : RoundTrip.Statement .jpHl := RoundTrip.of_rfl fun _ => rfl
theorem RoundTrip.ldIndNnA (nn : Word) : RoundTrip.Statement (.ldIndNnA nn) := RoundTrip.of_word (f := .ldIndNnA) fun _ => rfl
theorem RoundTrip.illegalEB : RoundTrip.Statement .illegalEB := RoundTrip.of_rfl fun _ => rfl
theorem RoundTrip.illegalEC : RoundTrip.Statement .illegalEC := RoundTrip.of_rfl fun _ => rfl
theorem RoundTrip.illegalED : RoundTrip.Statement .illegalED := RoundTrip.of_rfl fun _ => rfl
theorem RoundTrip.xorN (n : Byte) : RoundTrip.Statement (.xorN n) := RoundTrip.of_rfl fun _ => rfl
theorem RoundTrip.rst28 : RoundTrip.Statement .rst28 := RoundTrip.of_rfl fun _ => rfl
theorem RoundTrip.ldhAIndN (n : Byte) : RoundTrip.Statement (.ldhAIndN n) := RoundTrip.of_rfl fun _ => rfl
theorem RoundTrip.popAf : RoundTrip.Statement .popAf := RoundTrip.of_rfl fun _ => rfl
theorem RoundTrip.ldhAIndC : RoundTrip.Statement .ldhAIndC := RoundTrip.of_rfl fun _ => rfl
theorem RoundTrip.di : RoundTrip.Statement .di := RoundTrip.of_rfl fun _ => rfl
theorem RoundTrip.illegalF4 : RoundTrip.Statement .illegalF4 := RoundTrip.of_rfl fun _ => rfl
theorem RoundTrip.pushAf : RoundTrip.Statement .pushAf := RoundTrip.of_rfl fun _ => rfl
theorem RoundTrip.orN (n : Byte) : RoundTrip.Statement (.orN n) := RoundTrip.of_rfl fun _ => rfl
theorem RoundTrip.rst30 : RoundTrip.Statement .rst30 := RoundTrip.of_rfl fun _ => rfl
theorem RoundTrip.ldHlSpE (e : Byte) : RoundTrip.Statement (.ldHlSpE e) := RoundTrip.of_rfl fun _ => rfl
theorem RoundTrip.ldSpHl : RoundTrip.Statement .ldSpHl := RoundTrip.of_rfl fun _ => rfl
theorem RoundTrip.ldAIndNn (nn : Word) : RoundTrip.Statement (.ldAIndNn nn) := RoundTrip.of_word (f := .ldAIndNn) fun _ => rfl
theorem RoundTrip.ei : RoundTrip.Statement .ei := RoundTrip.of_rfl fun _ => rfl
theorem RoundTrip.illegalFC : RoundTrip.Statement .illegalFC := RoundTrip.of_rfl fun _ => rfl
theorem RoundTrip.illegalFD : RoundTrip.Statement .illegalFD := RoundTrip.of_rfl fun _ => rfl
theorem RoundTrip.cpN (n : Byte) : RoundTrip.Statement (.cpN n) := RoundTrip.of_rfl fun _ => rfl
theorem RoundTrip.rst38 : RoundTrip.Statement .rst38 := RoundTrip.of_rfl fun _ => rfl
theorem RoundTrip.rlcB : RoundTrip.Statement .rlcB := RoundTrip.of_rfl fun _ => rfl
theorem RoundTrip.rlcC : RoundTrip.Statement .rlcC := RoundTrip.of_rfl fun _ => rfl
theorem RoundTrip.rlcD : RoundTrip.Statement .rlcD := RoundTrip.of_rfl fun _ => rfl
theorem RoundTrip.rlcE : RoundTrip.Statement .rlcE := RoundTrip.of_rfl fun _ => rfl
theorem RoundTrip.rlcH : RoundTrip.Statement .rlcH := RoundTrip.of_rfl fun _ => rfl
theorem RoundTrip.rlcL : RoundTrip.Statement .rlcL := RoundTrip.of_rfl fun _ => rfl
theorem RoundTrip.rlcIndHl : RoundTrip.Statement .rlcIndHl := RoundTrip.of_rfl fun _ => rfl
theorem RoundTrip.rlcA : RoundTrip.Statement .rlcA := RoundTrip.of_rfl fun _ => rfl
theorem RoundTrip.rrcB : RoundTrip.Statement .rrcB := RoundTrip.of_rfl fun _ => rfl
theorem RoundTrip.rrcC : RoundTrip.Statement .rrcC := RoundTrip.of_rfl fun _ => rfl
theorem RoundTrip.rrcD : RoundTrip.Statement .rrcD := RoundTrip.of_rfl fun _ => rfl
theorem RoundTrip.rrcE : RoundTrip.Statement .rrcE := RoundTrip.of_rfl fun _ => rfl
theorem RoundTrip.rrcH : RoundTrip.Statement .rrcH := RoundTrip.of_rfl fun _ => rfl
theorem RoundTrip.rrcL : RoundTrip.Statement .rrcL := RoundTrip.of_rfl fun _ => rfl
theorem RoundTrip.rrcIndHl : RoundTrip.Statement .rrcIndHl := RoundTrip.of_rfl fun _ => rfl
theorem RoundTrip.rrcA : RoundTrip.Statement .rrcA := RoundTrip.of_rfl fun _ => rfl
theorem RoundTrip.rlB : RoundTrip.Statement .rlB := RoundTrip.of_rfl fun _ => rfl
theorem RoundTrip.rlC : RoundTrip.Statement .rlC := RoundTrip.of_rfl fun _ => rfl
theorem RoundTrip.rlD : RoundTrip.Statement .rlD := RoundTrip.of_rfl fun _ => rfl
theorem RoundTrip.rlE : RoundTrip.Statement .rlE := RoundTrip.of_rfl fun _ => rfl
theorem RoundTrip.rlH : RoundTrip.Statement .rlH := RoundTrip.of_rfl fun _ => rfl
theorem RoundTrip.rlL : RoundTrip.Statement .rlL := RoundTrip.of_rfl fun _ => rfl
theorem RoundTrip.rlIndHl : RoundTrip.Statement .rlIndHl := RoundTrip.of_rfl fun _ => rfl
theorem RoundTrip.rlA : RoundTrip.Statement .rlA := RoundTrip.of_rfl fun _ => rfl
theorem RoundTrip.rrB : RoundTrip.Statement .rrB := RoundTrip.of_rfl fun _ => rfl
theorem RoundTrip.rrC : RoundTrip.Statement .rrC := RoundTrip.of_rfl fun _ => rfl
theorem RoundTrip.rrD : RoundTrip.Statement .rrD := RoundTrip.of_rfl fun _ => rfl
theorem RoundTrip.rrE : RoundTrip.Statement .rrE := RoundTrip.of_rfl fun _ => rfl
theorem RoundTrip.rrH : RoundTrip.Statement .rrH := RoundTrip.of_rfl fun _ => rfl
theorem RoundTrip.rrL : RoundTrip.Statement .rrL := RoundTrip.of_rfl fun _ => rfl
theorem RoundTrip.rrIndHl : RoundTrip.Statement .rrIndHl := RoundTrip.of_rfl fun _ => rfl
theorem RoundTrip.rrA : RoundTrip.Statement .rrA := RoundTrip.of_rfl fun _ => rfl
theorem RoundTrip.slaB : RoundTrip.Statement .slaB := RoundTrip.of_rfl fun _ => rfl
theorem RoundTrip.slaC : RoundTrip.Statement .slaC := RoundTrip.of_rfl fun _ => rfl
theorem RoundTrip.slaD : RoundTrip.Statement .slaD := RoundTrip.of_rfl fun _ => rfl
theorem RoundTrip.slaE : RoundTrip.Statement .slaE := RoundTrip.of_rfl fun _ => rfl
theorem RoundTrip.slaH : RoundTrip.Statement .slaH := RoundTrip.of_rfl fun _ => rfl
theorem RoundTrip.slaL : RoundTrip.Statement .slaL := RoundTrip.of_rfl fun _ => rfl
theorem RoundTrip.slaIndHl : RoundTrip.Statement .slaIndHl := RoundTrip.of_rfl fun _ => rfl
theorem RoundTrip.slaA : RoundTrip.Statement .slaA := RoundTrip.of_rfl fun _ => rfl
theorem RoundTrip.sraB : RoundTrip.Statement .sraB := RoundTrip.of_rfl fun _ => rfl
theorem RoundTrip.sraC : RoundTrip.Statement .sraC := RoundTrip.of_rfl fun _ => rfl
theorem RoundTrip.sraD : RoundTrip.Statement .sraD := RoundTrip.of_rfl fun _ => rfl
theorem RoundTrip.sraE : RoundTrip.Statement .sraE := RoundTrip.of_rfl fun _ => rfl
theorem RoundTrip.sraH : RoundTrip.Statement .sraH := RoundTrip.of_rfl fun _ => rfl
theorem RoundTrip.sraL : RoundTrip.Statement .sraL := RoundTrip.of_rfl fun _ => rfl
theorem RoundTrip.sraIndHl : RoundTrip.Statement .sraIndHl := RoundTrip.of_rfl fun _ => rfl
theorem RoundTrip.sraA : RoundTrip.Statement .sraA := RoundTrip.of_rfl fun _ => rfl
theorem RoundTrip.swapB : RoundTrip.Statement .swapB := RoundTrip.of_rfl fun _ => rfl
theorem RoundTrip.swapC : RoundTrip.Statement .swapC := RoundTrip.of_rfl fun _ => rfl
theorem RoundTrip.swapD : RoundTrip.Statement .swapD := RoundTrip.of_rfl fun _ => rfl
theorem RoundTrip.swapE : RoundTrip.Statement .swapE := RoundTrip.of_rfl fun _ => rfl
theorem RoundTrip.swapH : RoundTrip.Statement .swapH := RoundTrip.of_rfl fun _ => rfl
theorem RoundTrip.swapL : RoundTrip.Statement .swapL := RoundTrip.of_rfl fun _ => rfl
theorem RoundTrip.swapIndHl : RoundTrip.Statement .swapIndHl := RoundTrip.of_rfl fun _ => rfl
theorem RoundTrip.swapA : RoundTrip.Statement .swapA := RoundTrip.of_rfl fun _ => rfl
theorem RoundTrip.srlB : RoundTrip.Statement .srlB := RoundTrip.of_rfl fun _ => rfl
theorem RoundTrip.srlC : RoundTrip.Statement .srlC := RoundTrip.of_rfl fun _ => rfl
theorem RoundTrip.srlD : RoundTrip.Statement .srlD := RoundTrip.of_rfl fun _ => rfl
theorem RoundTrip.srlE : RoundTrip.Statement .srlE := RoundTrip.of_rfl fun _ => rfl
theorem RoundTrip.srlH : RoundTrip.Statement .srlH := RoundTrip.of_rfl fun _ => rfl
theorem RoundTrip.srlL : RoundTrip.Statement .srlL := RoundTrip.of_rfl fun _ => rfl
theorem RoundTrip.srlIndHl : RoundTrip.Statement .srlIndHl := RoundTrip.of_rfl fun _ => rfl
theorem RoundTrip.srlA : RoundTrip.Statement .srlA := RoundTrip.of_rfl fun _ => rfl
theorem RoundTrip.bit0B : RoundTrip.Statement .bit0B := RoundTrip.of_rfl fun _ => rfl
theorem RoundTrip.bit0C : RoundTrip.Statement .bit0C := RoundTrip.of_rfl fun _ => rfl
theorem RoundTrip.bit0D : RoundTrip.Statement .bit0D := RoundTrip.of_rfl fun _ => rfl
theorem RoundTrip.bit0E : RoundTrip.Statement .bit0E := RoundTrip.of_rfl fun _ => rfl
theorem RoundTrip.bit0H : RoundTrip.Statement .bit0H := RoundTrip.of_rfl fun _ => rfl
theorem RoundTrip.bit0L : RoundTrip.Statement .bit0L := RoundTrip.of_rfl fun _ => rfl
theorem RoundTrip.bit0IndHl : RoundTrip.Statement .bit0IndHl := RoundTrip.of_rfl fun _ => rfl
theorem RoundTrip.bit0A : RoundTrip.Statement .bit0A := RoundTrip.of_rfl fun _ => rfl
theorem RoundTrip.bit1B : RoundTrip.Statement .bit1B := RoundTrip.of_rfl fun _ => rfl
theorem RoundTrip.bit1C : RoundTrip.Statement .bit1C := RoundTrip.of_rfl fun _ => rfl
theorem RoundTrip.bit1D : RoundTrip.Statement .bit1D := RoundTrip.of_rfl fun _ => rfl
theorem RoundTrip.bit1E : RoundTrip.Statement .bit1E := RoundTrip.of_rfl fun _ => rfl
theorem RoundTrip.bit1H : RoundTrip.Statement .bit1H := RoundTrip.of_rfl fun _ => rfl
theorem RoundTrip.bit1L : RoundTrip.Statement .bit1L := RoundTrip.of_rfl fun _ => rfl
theorem RoundTrip.bit1IndHl : RoundTrip.Statement .bit1IndHl := RoundTrip.of_rfl fun _ => rfl
theorem RoundTrip.bit1A : RoundTrip.Statement .bit1A := RoundTrip.of_rfl fun _ => rfl
theorem RoundTrip.bit2B : RoundTrip.Statement .bit2B := RoundTrip.of_rfl fun _ => rfl
theorem RoundTrip.bit2C : RoundTrip.Statement .bit2C := RoundTrip.of_rfl fun _ => rfl
theorem RoundTrip.bit2D : RoundTrip.Statement .bit2D := RoundTrip.of_rfl fun _ => rfl
theorem RoundTrip.bit2E : RoundTrip.Statement .bit2E := RoundTrip.of_rfl fun _ => rfl
theorem RoundTrip.bit2H : RoundTrip.Statement .bit2H := RoundTrip.of_rfl fun _ => rfl
theorem RoundTrip.bit2L : RoundTrip.Statement .bit2L := RoundTrip.of_rfl fun _ => rfl
theorem RoundTrip.bit2IndHl : RoundTrip.Statement .bit2IndHl := RoundTrip.of_rfl fun _ => rfl
theorem RoundTrip.bit2A : RoundTrip.Statement .bit2A := RoundTrip.of_rfl fun _ => rfl
theorem RoundTrip.bit3B : RoundTrip.Statement .bit3B := RoundTrip.of_rfl fun _ => rfl
theorem RoundTrip.bit3C : RoundTrip.Statement .bit3C := RoundTrip.of_rfl fun _ => rfl
theorem RoundTrip.bit3D : RoundTrip.Statement .bit3D := RoundTrip.of_rfl fun _ => rfl
theorem RoundTrip.bit3E : RoundTrip.Statement .bit3E := RoundTrip.of_rfl fun _ => rfl
theorem RoundTrip.bit3H : RoundTrip.Statement .bit3H := RoundTrip.of_rfl fun _ => rfl
theorem RoundTrip.bit3L : RoundTrip.Statement .bit3L := RoundTrip.of_rfl fun _ => rfl
theorem RoundTrip.bit3IndHl : RoundTrip.Statement .bit3IndHl := RoundTrip.of_rfl fun _ => rfl
theorem RoundTrip.bit3A : RoundTrip.Statement .bit3A := RoundTrip.of_rfl fun _ => rfl
theorem RoundTrip.bit4B : RoundTrip.Statement .bit4B := RoundTrip.of_rfl fun _ => rfl
theorem RoundTrip.bit4C : RoundTrip.Statement .bit4C := RoundTrip.of_rfl fun _ => rfl
theorem RoundTrip.bit4D : RoundTrip.Statement .bit4D := RoundTrip.of_rfl fun _ => rfl
theorem RoundTrip.bit4E : RoundTrip.Statement .bit4E := RoundTrip.of_rfl fun _ => rfl
theorem RoundTrip.bit4H : RoundTrip.Statement .bit4H := RoundTrip.of_rfl fun _ => rfl
theorem RoundTrip.bit4L : RoundTrip.Statement .bit4L := RoundTrip.of_rfl fun _ => rfl
theorem RoundTrip.bit4IndHl : RoundTrip.Statement .bit4IndHl := RoundTrip.of_rfl fun _ => rfl
theorem RoundTrip.bit4A : RoundTrip.Statement .bit4A := RoundTrip.of_rfl fun _ => rfl
theorem RoundTrip.bit5B : RoundTrip.Statement .bit5B := RoundTrip.of_rfl fun _ => rfl
theorem RoundTrip.bit5C : RoundTrip.Statement .bit5C := RoundTrip.of_rfl fun _ => rfl
theorem RoundTrip.bit5D : RoundTrip.Statement .bit5D := RoundTrip.of_rfl fun _ => rfl
theorem RoundTrip.bit5E : RoundTrip.Statement .bit5E := RoundTrip.of_rfl fun _ => rfl
theorem RoundTrip.bit5H : RoundTrip.Statement .bit5H := RoundTrip.of_rfl fun _ => rfl
theorem RoundTrip.bit5L : RoundTrip.Statement .bit5L := RoundTrip.of_rfl fun _ => rfl
theorem RoundTrip.bit5IndHl : RoundTrip.Statement .bit5IndHl := RoundTrip.of_rfl fun _ => rfl
theorem RoundTrip.bit5A : RoundTrip.Statement .bit5A := RoundTrip.of_rfl fun _ => rfl
theorem RoundTrip.bit6B : RoundTrip.Statement .bit6B := RoundTrip.of_rfl fun _ => rfl
theorem RoundTrip.bit6C : RoundTrip.Statement .bit6C := RoundTrip.of_rfl fun _ => rfl
theorem RoundTrip.bit6D : RoundTrip.Statement .bit6D := RoundTrip.of_rfl fun _ => rfl
theorem RoundTrip.bit6E : RoundTrip.Statement .bit6E := RoundTrip.of_rfl fun _ => rfl
theorem RoundTrip.bit6H : RoundTrip.Statement .bit6H := RoundTrip.of_rfl fun _ => rfl
theorem RoundTrip.bit6L : RoundTrip.Statement .bit6L := RoundTrip.of_rfl fun _ => rfl
theorem RoundTrip.bit6IndHl : RoundTrip.Statement .bit6IndHl := RoundTrip.of_rfl fun _ => rfl
theorem RoundTrip.bit6A : RoundTrip.Statement .bit6A := RoundTrip.of_rfl fun _ => rfl
theorem RoundTrip.bit7B : RoundTrip.Statement .bit7B := RoundTrip.of_rfl fun _ => rfl
theorem RoundTrip.bit7C : RoundTrip.Statement .bit7C := RoundTrip.of_rfl fun _ => rfl
theorem RoundTrip.bit7D : RoundTrip.Statement .bit7D := RoundTrip.of_rfl fun _ => rfl
theorem RoundTrip.bit7E : RoundTrip.Statement .bit7E := RoundTrip.of_rfl fun _ => rfl
theorem RoundTrip.bit7H : RoundTrip.Statement .bit7H := RoundTrip.of_rfl fun _ => rfl
theorem RoundTrip.bit7L : RoundTrip.Statement .bit7L := RoundTrip.of_rfl fun _ => rfl
theorem RoundTrip.bit7IndHl : RoundTrip.Statement .bit7IndHl := RoundTrip.of_rfl fun _ => rfl
theorem RoundTrip.bit7A : RoundTrip.Statement .bit7A := RoundTrip.of_rfl fun _ => rfl
theorem RoundTrip.res0B : RoundTrip.Statement .res0B := RoundTrip.of_rfl fun _ => rfl
theorem RoundTrip.res0C : RoundTrip.Statement .res0C := RoundTrip.of_rfl fun _ => rfl
theorem RoundTrip.res0D : RoundTrip.Statement .res0D := RoundTrip.of_rfl fun _ => rfl
theorem RoundTrip.res0E : RoundTrip.Statement .res0E := RoundTrip.of_rfl fun _ => rfl
theorem RoundTrip.res0H : RoundTrip.Statement .res0H := RoundTrip.of_rfl fun _ => rfl
theorem RoundTrip.res0L : RoundTrip.Statement .res0L := RoundTrip.of_rfl fun _ => rfl
theorem RoundTrip.res0IndHl : RoundTrip.Statement .res0IndHl := RoundTrip.of_rfl fun _ => rfl
theorem RoundTrip.res0A : RoundTrip.Statement .res0A := RoundTrip.of_rfl fun _ => rfl
theorem RoundTrip.res1B : RoundTrip.Statement .res1B := RoundTrip.of_rfl fun _ => rfl
theorem RoundTrip.res1C : RoundTrip.Statement .res1C := RoundTrip.of_rfl fun _ => rfl
theorem RoundTrip.res1D : RoundTrip.Statement .res1D := RoundTrip.of_rfl fun _ => rfl
theorem RoundTrip.res1E : RoundTrip.Statement .res1E := RoundTrip.of_rfl fun _ => rfl
theorem RoundTrip.res1H : RoundTrip.Statement .res1H := RoundTrip.of_rfl fun _ => rfl
theorem RoundTrip.res1L : RoundTrip.Statement .res1L := RoundTrip.of_rfl fun _ => rfl
theorem RoundTrip.res1IndHl : RoundTrip.Statement .res1IndHl := RoundTrip.of_rfl fun _ => rfl
theorem RoundTrip.res1A : RoundTrip.Statement .res1A := RoundTrip.of_rfl fun _ => rfl
theorem RoundTrip.res2B : RoundTrip.Statement .res2B := RoundTrip.of_rfl fun _ => rfl
theorem RoundTrip.res2C : RoundTrip.Statement .res2C := RoundTrip.of_rfl fun _ => rfl
theorem RoundTrip.res2D : RoundTrip.Statement .res2D := RoundTrip.of_rfl fun _ => rfl
theorem RoundTrip.res2E : RoundTrip.Statement .res2E := RoundTrip.of_rfl fun _ => rfl
theorem RoundTrip.res2H : RoundTrip.Statement .res2H := RoundTrip.of_rfl fun _ => rfl
theorem RoundTrip.res2L : RoundTrip.Statement .res2L := RoundTrip.of_rfl fun _ => rfl
theorem RoundTrip.res2IndHl : RoundTrip.Statement .res2IndHl := RoundTrip.of_rfl fun _ => rfl
theorem RoundTrip.res2A : RoundTrip.Statement .res2A := RoundTrip.of_rfl fun _ => rfl
theorem RoundTrip.res3B : RoundTrip.Statement .res3B := RoundTrip.of_rfl fun _ => rfl
theorem RoundTrip.res3C : RoundTrip.Statement .res3C := RoundTrip.of_rfl fun _ => rfl
theorem RoundTrip.res3D : RoundTrip.Statement .res3D := RoundTrip.of_rfl fun _ => rfl
theorem RoundTrip.res3E : RoundTrip.Statement .res3E := RoundTrip.of_rfl fun _ => rfl
theorem RoundTrip.res3H : RoundTrip.Statement .res3H := RoundTrip.of_rfl fun _ => rfl
theorem RoundTrip.res3L : RoundTrip.Statement .res3L := RoundTrip.of_rfl fun _ => rfl
theorem RoundTrip.res3IndHl : RoundTrip.Statement .res3IndHl := RoundTrip.of_rfl fun _ => rfl
theorem RoundTrip.res3A : RoundTrip.Statement .res3A := RoundTrip.of_rfl fun _ => rfl
theorem RoundTrip.res4B : RoundTrip.Statement .res4B := RoundTrip.of_rfl fun _ => rfl
theorem RoundTrip.res4C : RoundTrip.Statement .res4C := RoundTrip.of_rfl fun _ => rfl
theorem RoundTrip.res4D : RoundTrip.Statement .res4D := RoundTrip.of_rfl fun _ => rfl
theorem RoundTrip.res4E : RoundTrip.Statement .res4E := RoundTrip.of_rfl fun _ => rfl
theorem RoundTrip.res4H : RoundTrip.Statement .res4H := RoundTrip.of_rfl fun _ => rfl
theorem RoundTrip.res4L : RoundTrip.Statement .res4L := RoundTrip.of_rfl fun _ => rfl
theorem RoundTrip.res4IndHl : RoundTrip.Statement .res4IndHl := RoundTrip.of_rfl fun _ => rfl
theorem RoundTrip.res4A : RoundTrip.Statement .res4A := RoundTrip.of_rfl fun _ => rfl
theorem RoundTrip.res5B : RoundTrip.Statement .res5B := RoundTrip.of_rfl fun _ => rfl
theorem RoundTrip.res5C : RoundTrip.Statement .res5C := RoundTrip.of_rfl fun _ => rfl
theorem RoundTrip.res5D : RoundTrip.Statement .res5D := RoundTrip.of_rfl fun _ => rfl
theorem RoundTrip.res5E : RoundTrip.Statement .res5E := RoundTrip.of_rfl fun _ => rfl
theorem RoundTrip.res5H : RoundTrip.Statement .res5H := RoundTrip.of_rfl fun _ => rfl
theorem RoundTrip.res5L : RoundTrip.Statement .res5L := RoundTrip.of_rfl fun _ => rfl
theorem RoundTrip.res5IndHl : RoundTrip.Statement .res5IndHl := RoundTrip.of_rfl fun _ => rfl
theorem RoundTrip.res5A : RoundTrip.Statement .res5A := RoundTrip.of_rfl fun _ => rfl
theorem RoundTrip.res6B : RoundTrip.Statement .res6B := RoundTrip.of_rfl fun _ => rfl
theorem RoundTrip.res6C : RoundTrip.Statement .res6C := RoundTrip.of_rfl fun _ => rfl
theorem RoundTrip.res6D : RoundTrip.Statement .res6D := RoundTrip.of_rfl fun _ => rfl
theorem RoundTrip.res6E : RoundTrip.Statement .res6E := RoundTrip.of_rfl fun _ => rfl
theorem RoundTrip.res6H : RoundTrip.Statement .res6H := RoundTrip.of_rfl fun _ => rfl
theorem RoundTrip.res6L : RoundTrip.Statement .res6L := RoundTrip.of_rfl fun _ => rfl
theorem RoundTrip.res6IndHl : RoundTrip.Statement .res6IndHl := RoundTrip.of_rfl fun _ => rfl
theorem RoundTrip.res6A : RoundTrip.Statement .res6A := RoundTrip.of_rfl fun _ => rfl
theorem RoundTrip.res7B : RoundTrip.Statement .res7B := RoundTrip.of_rfl fun _ => rfl
theorem RoundTrip.res7C : RoundTrip.Statement .res7C := RoundTrip.of_rfl fun _ => rfl
theorem RoundTrip.res7D : RoundTrip.Statement .res7D := RoundTrip.of_rfl fun _ => rfl
theorem RoundTrip.res7E : RoundTrip.Statement .res7E := RoundTrip.of_rfl fun _ => rfl
theorem RoundTrip.res7H : RoundTrip.Statement .res7H := RoundTrip.of_rfl fun _ => rfl
theorem RoundTrip.res7L : RoundTrip.Statement .res7L := RoundTrip.of_rfl fun _ => rfl
theorem RoundTrip.res7IndHl : RoundTrip.Statement .res7IndHl := RoundTrip.of_rfl fun _ => rfl
theorem RoundTrip.res7A : RoundTrip.Statement .res7A := RoundTrip.of_rfl fun _ => rfl
theorem RoundTrip.set0B : RoundTrip.Statement .set0B := RoundTrip.of_rfl fun _ => rfl
theorem RoundTrip.set0C : RoundTrip.Statement .set0C := RoundTrip.of_rfl fun _ => rfl
theorem RoundTrip.set0D : RoundTrip.Statement .set0D := RoundTrip.of_rfl fun _ => rfl
theorem RoundTrip.set0E : RoundTrip.Statement .set0E := RoundTrip.of_rfl fun _ => rfl
theorem RoundTrip.set0H : RoundTrip.Statement .set0H := RoundTrip.of_rfl fun _ => rfl
theorem RoundTrip.set0L : RoundTrip.Statement .set0L := RoundTrip.of_rfl fun _ => rfl
theorem RoundTrip.set0IndHl : RoundTrip.Statement .set0IndHl := RoundTrip.of_rfl fun _ => rfl
theorem RoundTrip.set0A : RoundTrip.Statement .set0A := RoundTrip.of_rfl fun _ => rfl
theorem RoundTrip.set1B : RoundTrip.Statement .set1B := RoundTrip.of_rfl fun _ => rfl
theorem RoundTrip.set1C : RoundTrip.Statement .set1C := RoundTrip.of_rfl fun _ => rfl
theorem RoundTrip.set1D : RoundTrip.Statement .set1D := RoundTrip.of_rfl fun _ => rfl
theorem RoundTrip.set1E : RoundTrip.Statement .set1E := RoundTrip.of_rfl fun _ => rfl
theorem RoundTrip.set1H : RoundTrip.Statement .set1H := RoundTrip.of_rfl fun _ => rfl
theorem RoundTrip.set1L : RoundTrip.Statement .set1L := RoundTrip.of_rfl fun _ => rfl
theorem RoundTrip.set1IndHl : RoundTrip.Statement .set1IndHl := RoundTrip.of_rfl fun _ => rfl
theorem RoundTrip.set1A : RoundTrip.Statement .set1A := RoundTrip.of_rfl fun _ => rfl
theorem RoundTrip.set2B : RoundTrip.Statement .set2B := RoundTrip.of_rfl fun _ => rfl
theorem RoundTrip.set2C : RoundTrip.Statement .set2C := RoundTrip.of_rfl fun _ => rfl
theorem RoundTrip.set2D : RoundTrip.Statement .set2D := RoundTrip.of_rfl fun _ => rfl
theorem RoundTrip.set2E : RoundTrip.Statement .set2E := RoundTrip.of_rfl fun _ => rfl
theorem RoundTrip.set2H : RoundTrip.Statement .set2H := RoundTrip.of_rfl fun _ => rfl
theorem RoundTrip.set2L : RoundTrip.Statement .set2L := RoundTrip.of_rfl fun _ => rfl
theorem RoundTrip.set2IndHl : RoundTrip.Statement .set2IndHl := RoundTrip.of_rfl fun _ => rfl
theorem RoundTrip.set2A : RoundTrip.Statement .set2A := RoundTrip.of_rfl fun _ => rfl
theorem RoundTrip.set3B : RoundTrip.Statement .set3B := RoundTrip.of_rfl fun _ => rfl
theorem RoundTrip.set3C : RoundTrip.Statement .set3C := RoundTrip.of_rfl fun _ => rfl
theorem RoundTrip.set3D : RoundTrip.Statement .set3D := RoundTrip.of_rfl fun _ => rfl
theorem RoundTrip.set3E : RoundTrip.Statement .set3E := RoundTrip.of_rfl fun _ => rfl
theorem RoundTrip.set3H : RoundTrip.Statement .set3H := RoundTrip.of_rfl fun _ => rfl
theorem RoundTrip.set3L : RoundTrip.Statement .set3L := RoundTrip.of_rfl fun _ => rfl
theorem RoundTrip.set3IndHl : RoundTrip.Statement .set3IndHl := RoundTrip.of_rfl fun _ => rfl
theorem RoundTrip.set3A : RoundTrip.Statement .set3A := RoundTrip.of_rfl fun _ => rfl
theorem RoundTrip.set4B : RoundTrip.Statement .set4B := RoundTrip.of_rfl fun _ => rfl
theorem RoundTrip.set4C : RoundTrip.Statement .set4C := RoundTrip.of_rfl fun _ => rfl
theorem RoundTrip.set4D : RoundTrip.Statement .set4D := RoundTrip.of_rfl fun _ => rfl
theorem RoundTrip.set4E : RoundTrip.Statement .set4E := RoundTrip.of_rfl fun _ => rfl
theorem RoundTrip.set4H : RoundTrip.Statement .set4H := RoundTrip.of_rfl fun _ => rfl
theorem RoundTrip.set4L : RoundTrip.Statement .set4L := RoundTrip.of_rfl fun _ => rfl
theorem RoundTrip.set4IndHl : RoundTrip.Statement .set4IndHl := RoundTrip.of_rfl fun _ => rfl
theorem RoundTrip.set4A : RoundTrip.Statement .set4A := RoundTrip.of_rfl fun _ => rfl
theorem RoundTrip.set5B : RoundTrip.Statement .set5B := RoundTrip.of_rfl fun _ => rfl
theorem RoundTrip.set5C : RoundTrip.Statement .set5C := RoundTrip.of_rfl fun _ => rfl
theorem RoundTrip.set5D : RoundTrip.Statement .set5D := RoundTrip.of_rfl fun _ => rfl
theorem RoundTrip.set5E : RoundTrip.Statement .set5E := RoundTrip.of_rfl fun _ => rfl
theorem RoundTrip.set5H : RoundTrip.Statement .set5H := RoundTrip.of_rfl fun _ => rfl
theorem RoundTrip.set5L : RoundTrip.Statement .set5L := RoundTrip.of_rfl fun _ => rfl
theorem RoundTrip.set5IndHl : RoundTrip.Statement .set5IndHl := RoundTrip.of_rfl fun _ => rfl
theorem RoundTrip.set5A : RoundTrip.Statement .set5A := RoundTrip.of_rfl fun _ => rfl
theorem RoundTrip.set6B : RoundTrip.Statement .set6B := RoundTrip.of_rfl fun _ => rfl
theorem RoundTrip.set6C : RoundTrip.Statement .set6C := RoundTrip.of_rfl fun _ => rfl
theorem RoundTrip.set6D : RoundTrip.Statement .set6D := RoundTrip.of_rfl fun _ => rfl
theorem RoundTrip.set6E : RoundTrip.Statement .set6E := RoundTrip.of_rfl fun _ => rfl
theorem RoundTrip.set6H : RoundTrip.Statement .set6H := RoundTrip.of_rfl fun _ => rfl
theorem RoundTrip.set6L : RoundTrip.Statement .set6L := RoundTrip.of_rfl fun _ => rfl
theorem RoundTrip.set6IndHl : RoundTrip.Statement .set6IndHl := RoundTrip.of_rfl fun _ => rfl
theorem RoundTrip.set6A : RoundTrip.Statement .set6A := RoundTrip.of_rfl fun _ => rfl
theorem RoundTrip.set7B : RoundTrip.Statement .set7B := RoundTrip.of_rfl fun _ => rfl
theorem RoundTrip.set7C : RoundTrip.Statement .set7C := RoundTrip.of_rfl fun _ => rfl
theorem RoundTrip.set7D : RoundTrip.Statement .set7D := RoundTrip.of_rfl fun _ => rfl
theorem RoundTrip.set7E : RoundTrip.Statement .set7E := RoundTrip.of_rfl fun _ => rfl
theorem RoundTrip.set7H : RoundTrip.Statement .set7H := RoundTrip.of_rfl fun _ => rfl
theorem RoundTrip.set7L : RoundTrip.Statement .set7L := RoundTrip.of_rfl fun _ => rfl
theorem RoundTrip.set7IndHl : RoundTrip.Statement .set7IndHl := RoundTrip.of_rfl fun _ => rfl
theorem RoundTrip.set7A : RoundTrip.Statement .set7A := RoundTrip.of_rfl fun _ => rfl

end Sys2Proof.Laws
end

