-- ==== Sys2Proof/Tests/Slice0.lean ====
section
/-! SUPPORT. Tests of the model, and a witness for every statement that has hypotheses. The expected results are
the spec's: the opcode maps R126 and R127, and the vectors and scenarios of 95_test_vectors.md. -/

namespace Sys2Proof.Tests

open Sys2Proof Sys2Proof.Machine

/-! ### Well-formedness -/

/-- The one check refuses the bare prefix (R370). -/
theorem test_bare_prefix_refused : Instr.cbPrefix.wellFormed = false := by decide
theorem test_illegal_is_no_instruction : Instr.illegalD3.legal = false ∧ Instr.illegalD3.wellFormed = true := by
  decide

/-! ### Decoding: every row of the maps R126 and R127 -/

/-- What the decoder reads from bytes. -/
def reads (bytes : List Byte) : Option Instr :=
  match decode bytes with
  | .ok (i, _) => some i
  | .error _ => none

theorem test_decode_0x : ([
    [0x00], [0x01, 0x34, 0x12], [0x02], [0x03], [0x04], [0x05], [0x06, 0x34], [0x07], [0x08, 0x34, 0x12], [0x09],
    [0x0A], [0x0B], [0x0C], [0x0D], [0x0E, 0x34], [0x0F]] : List (List Byte)).map reads = [
    .nop, .ldBcNn 0x1234, .ldIndBcA, .incBc, .incB, .decB, .ldBN 0x34, .rlca, .ldIndNnSp 0x1234, .addHlBc, .ldAIndBc,
    .decBc, .incC, .decC, .ldCN 0x34, .rrca].map some := by decide
theorem test_decode_1x : ([
    [0x10, 0x00], [0x11, 0x34, 0x12], [0x12], [0x13], [0x14], [0x15], [0x16, 0x34], [0x17], [0x18, 0x34], [0x19],
    [0x1A], [0x1B], [0x1C], [0x1D], [0x1E, 0x34], [0x1F]] : List (List Byte)).map reads = [
    .stop, .ldDeNn 0x1234, .ldIndDeA, .incDe, .incD, .decD, .ldDN 0x34, .rla, .jrE 0x34, .addHlDe, .ldAIndDe, .decDe,
    .incE, .decE, .ldEN 0x34, .rra].map some := by decide
theorem test_decode_2x : ([
    [0x20, 0x34], [0x21, 0x34, 0x12], [0x22], [0x23], [0x24], [0x25], [0x26, 0x34], [0x27], [0x28, 0x34], [0x29],
    [0x2A], [0x2B], [0x2C], [0x2D], [0x2E, 0x34], [0x2F]] : List (List Byte)).map reads = [
    .jrNzE 0x34, .ldHlNn 0x1234, .ldIndHlIncA, .incHl, .incH, .decH, .ldHN 0x34, .daa, .jrZE 0x34, .addHlHl,
    .ldAIndHlInc, .decHl, .incL, .decL, .ldLN 0x34, .cpl].map some := by decide
theorem test_decode_3x : ([
    [0x30, 0x34], [0x31, 0x34, 0x12], [0x32], [0x33], [0x34], [0x35], [0x36, 0x34], [0x37], [0x38, 0x34], [0x39],
    [0x3A], [0x3B], [0x3C], [0x3D], [0x3E, 0x34], [0x3F]] : List (List Byte)).map reads = [
    .jrNcE 0x34, .ldSpNn 0x1234, .ldIndHlDecA, .incSp, .incIndHl, .decIndHl, .ldIndHlN 0x34, .scf, .jrCE 0x34,
    .addHlSp, .ldAIndHlDec, .decSp, .incA, .decA, .ldAN 0x34, .ccf].map some := by decide
theorem test_decode_4x : ([
    [0x40], [0x41], [0x42], [0x43], [0x44], [0x45], [0x46], [0x47], [0x48], [0x49], [0x4A], [0x4B], [0x4C], [0x4D],
    [0x4E], [0x4F]] : List (List Byte)).map reads = [
    .ldBB, .ldBC, .ldBD, .ldBE, .ldBH, .ldBL, .ldBIndHl, .ldBA, .ldCB, .ldCC, .ldCD, .ldCE, .ldCH, .ldCL, .ldCIndHl,
    .ldCA].map some := by decide
theorem test_decode_5x : ([
    [0x50], [0x51], [0x52], [0x53], [0x54], [0x55], [0x56], [0x57], [0x58], [0x59], [0x5A], [0x5B], [0x5C], [0x5D],
    [0x5E], [0x5F]] : List (List Byte)).map reads = [
    .ldDB, .ldDC, .ldDD, .ldDE, .ldDH, .ldDL, .ldDIndHl, .ldDA, .ldEB, .ldEC, .ldED, .ldEE, .ldEH, .ldEL, .ldEIndHl,
    .ldEA].map some := by decide
theorem test_decode_6x : ([
    [0x60], [0x61], [0x62], [0x63], [0x64], [0x65], [0x66], [0x67], [0x68], [0x69], [0x6A], [0x6B], [0x6C], [0x6D],
    [0x6E], [0x6F]] : List (List Byte)).map reads = [
    .ldHB, .ldHC, .ldHD, .ldHE, .ldHH, .ldHL, .ldHIndHl, .ldHA, .ldLB, .ldLC, .ldLD, .ldLE, .ldLH, .ldLL, .ldLIndHl,
    .ldLA].map some := by decide
theorem test_decode_7x : ([
    [0x70], [0x71], [0x72], [0x73], [0x74], [0x75], [0x76], [0x77], [0x78], [0x79], [0x7A], [0x7B], [0x7C], [0x7D],
    [0x7E], [0x7F]] : List (List Byte)).map reads = [
    .ldIndHlB, .ldIndHlC, .ldIndHlD, .ldIndHlE, .ldIndHlH, .ldIndHlL, .halt, .ldIndHlA, .ldAB, .ldAC, .ldAD, .ldAE,
    .ldAH, .ldAL, .ldAIndHl, .ldAA].map some := by decide
theorem test_decode_8x : ([
    [0x80], [0x81], [0x82], [0x83], [0x84], [0x85], [0x86], [0x87], [0x88], [0x89], [0x8A], [0x8B], [0x8C], [0x8D],
    [0x8E], [0x8F]] : List (List Byte)).map reads = [
    .addAB, .addAC, .addAD, .addAE, .addAH, .addAL, .addAIndHl, .addAA, .adcAB, .adcAC, .adcAD, .adcAE, .adcAH,
    .adcAL, .adcAIndHl, .adcAA].map some := by decide
theorem test_decode_9x : ([
    [0x90], [0x91], [0x92], [0x93], [0x94], [0x95], [0x96], [0x97], [0x98], [0x99], [0x9A], [0x9B], [0x9C], [0x9D],
    [0x9E], [0x9F]] : List (List Byte)).map reads = [
    .subB, .subC, .subD, .subE, .subH, .subL, .subIndHl, .subA, .sbcAB, .sbcAC, .sbcAD, .sbcAE, .sbcAH, .sbcAL,
    .sbcAIndHl, .sbcAA].map some := by decide
theorem test_decode_Ax : ([
    [0xA0], [0xA1], [0xA2], [0xA3], [0xA4], [0xA5], [0xA6], [0xA7], [0xA8], [0xA9], [0xAA], [0xAB], [0xAC], [0xAD],
    [0xAE], [0xAF]] : List (List Byte)).map reads = [
    .andB, .andC, .andD, .andE, .andH, .andL, .andIndHl, .andA, .xorB, .xorC, .xorD, .xorE, .xorH, .xorL, .xorIndHl,
    .xorA].map some := by decide
theorem test_decode_Bx : ([
    [0xB0], [0xB1], [0xB2], [0xB3], [0xB4], [0xB5], [0xB6], [0xB7], [0xB8], [0xB9], [0xBA], [0xBB], [0xBC], [0xBD],
    [0xBE], [0xBF]] : List (List Byte)).map reads = [
    .orB, .orC, .orD, .orE, .orH, .orL, .orIndHl, .orA, .cpB, .cpC, .cpD, .cpE, .cpH, .cpL, .cpIndHl, .cpA].map some := by decide
theorem test_decode_Cx : ([
    [0xC0], [0xC1], [0xC2, 0x34, 0x12], [0xC3, 0x34, 0x12], [0xC4, 0x34, 0x12], [0xC5], [0xC6, 0x34], [0xC7], [0xC8],
    [0xC9], [0xCA, 0x34, 0x12], [0xCC, 0x34, 0x12], [0xCD, 0x34, 0x12], [0xCE, 0x34], [0xCF]] : List (List Byte)).map reads = [
    .retNz, .popBc, .jpNzNn 0x1234, .jpNn 0x1234, .callNzNn 0x1234, .pushBc, .addAN 0x34, .rst00, .retZ, .ret,
    .jpZNn 0x1234, .callZNn 0x1234, .callNn 0x1234, .adcAN 0x34, .rst08].map some := by decide
theorem test_decode_Dx : ([
    [0xD0], [0xD1], [0xD2, 0x34, 0x12], [0xD3], [0xD4, 0x34, 0x12], [0xD5], [0xD6, 0x34], [0xD7], [0xD8], [0xD9],
    [0xDA, 0x34, 0x12], [0xDB], [0xDC, 0x34, 0x12], [0xDD], [0xDE, 0x34], [0xDF]] : List (List Byte)).map reads = [
    .retNc, .popDe, .jpNcNn 0x1234, .illegalD3, .callNcNn 0x1234, .pushDe, .subN 0x34, .rst10, .retC, .reti,
    .jpCNn 0x1234, .illegalDB, .callCNn 0x1234, .illegalDD, .sbcAN 0x34, .rst18].map some := by decide
theorem test_decode_Ex : ([
    [0xE0, 0x34], [0xE1], [0xE2], [0xE3], [0xE4], [0xE5], [0xE6, 0x34], [0xE7], [0xE8, 0x34], [0xE9],
    [0xEA, 0x34, 0x12], [0xEB], [0xEC], [0xED], [0xEE, 0x34], [0xEF]] : List (List Byte)).map reads = [
    .ldhIndNA 0x34, .popHl, .ldhIndCA, .illegalE3, .illegalE4, .pushHl, .andN 0x34, .rst20, .addSpE 0x34, .jpHl,
    .ldIndNnA 0x1234, .illegalEB, .illegalEC, .illegalED, .xorN 0x34, .rst28].map some := by decide
theorem test_decode_Fx : ([
    [0xF0, 0x34], [0xF1], [0xF2], [0xF3], [0xF4], [0xF5], [0xF6, 0x34], [0xF7], [0xF8, 0x34], [0xF9],
    [0xFA, 0x34, 0x12], [0xFB], [0xFC], [0xFD], [0xFE, 0x34], [0xFF]] : List (List Byte)).map reads = [
    .ldhAIndN 0x34, .popAf, .ldhAIndC, .di, .illegalF4, .pushAf, .orN 0x34, .rst30, .ldHlSpE 0x34, .ldSpHl,
    .ldAIndNn 0x1234, .ei, .illegalFC, .illegalFD, .cpN 0x34, .rst38].map some := by decide
theorem test_decode_cb_00 : ([
    [0xCB, 0x00], [0xCB, 0x01], [0xCB, 0x02], [0xCB, 0x03], [0xCB, 0x04], [0xCB, 0x05], [0xCB, 0x06], [0xCB, 0x07]] : List (List Byte)).map reads = [
    .rlcB, .rlcC, .rlcD, .rlcE, .rlcH, .rlcL, .rlcIndHl, .rlcA].map some := by decide
theorem test_decode_cb_08 : ([
    [0xCB, 0x08], [0xCB, 0x09], [0xCB, 0x0A], [0xCB, 0x0B], [0xCB, 0x0C], [0xCB, 0x0D], [0xCB, 0x0E], [0xCB, 0x0F]] : List (List Byte)).map reads = [
    .rrcB, .rrcC, .rrcD, .rrcE, .rrcH, .rrcL, .rrcIndHl, .rrcA].map some := by decide
theorem test_decode_cb_10 : ([
    [0xCB, 0x10], [0xCB, 0x11], [0xCB, 0x12], [0xCB, 0x13], [0xCB, 0x14], [0xCB, 0x15], [0xCB, 0x16], [0xCB, 0x17]] : List (List Byte)).map reads = [
    .rlB, .rlC, .rlD, .rlE, .rlH, .rlL, .rlIndHl, .rlA].map some := by decide
theorem test_decode_cb_18 : ([
    [0xCB, 0x18], [0xCB, 0x19], [0xCB, 0x1A], [0xCB, 0x1B], [0xCB, 0x1C], [0xCB, 0x1D], [0xCB, 0x1E], [0xCB, 0x1F]] : List (List Byte)).map reads = [
    .rrB, .rrC, .rrD, .rrE, .rrH, .rrL, .rrIndHl, .rrA].map some := by decide
theorem test_decode_cb_20 : ([
    [0xCB, 0x20], [0xCB, 0x21], [0xCB, 0x22], [0xCB, 0x23], [0xCB, 0x24], [0xCB, 0x25], [0xCB, 0x26], [0xCB, 0x27]] : List (List Byte)).map reads = [
    .slaB, .slaC, .slaD, .slaE, .slaH, .slaL, .slaIndHl, .slaA].map some := by decide
theorem test_decode_cb_28 : ([
    [0xCB, 0x28], [0xCB, 0x29], [0xCB, 0x2A], [0xCB, 0x2B], [0xCB, 0x2C], [0xCB, 0x2D], [0xCB, 0x2E], [0xCB, 0x2F]] : List (List Byte)).map reads = [
    .sraB, .sraC, .sraD, .sraE, .sraH, .sraL, .sraIndHl, .sraA].map some := by decide
theorem test_decode_cb_30 : ([
    [0xCB, 0x30], [0xCB, 0x31], [0xCB, 0x32], [0xCB, 0x33], [0xCB, 0x34], [0xCB, 0x35], [0xCB, 0x36], [0xCB, 0x37]] : List (List Byte)).map reads = [
    .swapB, .swapC, .swapD, .swapE, .swapH, .swapL, .swapIndHl, .swapA].map some := by decide
theorem test_decode_cb_38 : ([
    [0xCB, 0x38], [0xCB, 0x39], [0xCB, 0x3A], [0xCB, 0x3B], [0xCB, 0x3C], [0xCB, 0x3D], [0xCB, 0x3E], [0xCB, 0x3F]] : List (List Byte)).map reads = [
    .srlB, .srlC, .srlD, .srlE, .srlH, .srlL, .srlIndHl, .srlA].map some := by decide
theorem test_decode_cb_40 : ([
    [0xCB, 0x40], [0xCB, 0x41], [0xCB, 0x42], [0xCB, 0x43], [0xCB, 0x44], [0xCB, 0x45], [0xCB, 0x46], [0xCB, 0x47]] : List (List Byte)).map reads = [
    .bit0B, .bit0C, .bit0D, .bit0E, .bit0H, .bit0L, .bit0IndHl, .bit0A].map some := by decide
theorem test_decode_cb_48 : ([
    [0xCB, 0x48], [0xCB, 0x49], [0xCB, 0x4A], [0xCB, 0x4B], [0xCB, 0x4C], [0xCB, 0x4D], [0xCB, 0x4E], [0xCB, 0x4F]] : List (List Byte)).map reads = [
    .bit1B, .bit1C, .bit1D, .bit1E, .bit1H, .bit1L, .bit1IndHl, .bit1A].map some := by decide
theorem test_decode_cb_50 : ([
    [0xCB, 0x50], [0xCB, 0x51], [0xCB, 0x52], [0xCB, 0x53], [0xCB, 0x54], [0xCB, 0x55], [0xCB, 0x56], [0xCB, 0x57]] : List (List Byte)).map reads = [
    .bit2B, .bit2C, .bit2D, .bit2E, .bit2H, .bit2L, .bit2IndHl, .bit2A].map some := by decide
theorem test_decode_cb_58 : ([
    [0xCB, 0x58], [0xCB, 0x59], [0xCB, 0x5A], [0xCB, 0x5B], [0xCB, 0x5C], [0xCB, 0x5D], [0xCB, 0x5E], [0xCB, 0x5F]] : List (List Byte)).map reads = [
    .bit3B, .bit3C, .bit3D, .bit3E, .bit3H, .bit3L, .bit3IndHl, .bit3A].map some := by decide
theorem test_decode_cb_60 : ([
    [0xCB, 0x60], [0xCB, 0x61], [0xCB, 0x62], [0xCB, 0x63], [0xCB, 0x64], [0xCB, 0x65], [0xCB, 0x66], [0xCB, 0x67]] : List (List Byte)).map reads = [
    .bit4B, .bit4C, .bit4D, .bit4E, .bit4H, .bit4L, .bit4IndHl, .bit4A].map some := by decide
theorem test_decode_cb_68 : ([
    [0xCB, 0x68], [0xCB, 0x69], [0xCB, 0x6A], [0xCB, 0x6B], [0xCB, 0x6C], [0xCB, 0x6D], [0xCB, 0x6E], [0xCB, 0x6F]] : List (List Byte)).map reads = [
    .bit5B, .bit5C, .bit5D, .bit5E, .bit5H, .bit5L, .bit5IndHl, .bit5A].map some := by decide
theorem test_decode_cb_70 : ([
    [0xCB, 0x70], [0xCB, 0x71], [0xCB, 0x72], [0xCB, 0x73], [0xCB, 0x74], [0xCB, 0x75], [0xCB, 0x76], [0xCB, 0x77]] : List (List Byte)).map reads = [
    .bit6B, .bit6C, .bit6D, .bit6E, .bit6H, .bit6L, .bit6IndHl, .bit6A].map some := by decide
theorem test_decode_cb_78 : ([
    [0xCB, 0x78], [0xCB, 0x79], [0xCB, 0x7A], [0xCB, 0x7B], [0xCB, 0x7C], [0xCB, 0x7D], [0xCB, 0x7E], [0xCB, 0x7F]] : List (List Byte)).map reads = [
    .bit7B, .bit7C, .bit7D, .bit7E, .bit7H, .bit7L, .bit7IndHl, .bit7A].map some := by decide
theorem test_decode_cb_80 : ([
    [0xCB, 0x80], [0xCB, 0x81], [0xCB, 0x82], [0xCB, 0x83], [0xCB, 0x84], [0xCB, 0x85], [0xCB, 0x86], [0xCB, 0x87]] : List (List Byte)).map reads = [
    .res0B, .res0C, .res0D, .res0E, .res0H, .res0L, .res0IndHl, .res0A].map some := by decide
theorem test_decode_cb_88 : ([
    [0xCB, 0x88], [0xCB, 0x89], [0xCB, 0x8A], [0xCB, 0x8B], [0xCB, 0x8C], [0xCB, 0x8D], [0xCB, 0x8E], [0xCB, 0x8F]] : List (List Byte)).map reads = [
    .res1B, .res1C, .res1D, .res1E, .res1H, .res1L, .res1IndHl, .res1A].map some := by decide
theorem test_decode_cb_90 : ([
    [0xCB, 0x90], [0xCB, 0x91], [0xCB, 0x92], [0xCB, 0x93], [0xCB, 0x94], [0xCB, 0x95], [0xCB, 0x96], [0xCB, 0x97]] : List (List Byte)).map reads = [
    .res2B, .res2C, .res2D, .res2E, .res2H, .res2L, .res2IndHl, .res2A].map some := by decide
theorem test_decode_cb_98 : ([
    [0xCB, 0x98], [0xCB, 0x99], [0xCB, 0x9A], [0xCB, 0x9B], [0xCB, 0x9C], [0xCB, 0x9D], [0xCB, 0x9E], [0xCB, 0x9F]] : List (List Byte)).map reads = [
    .res3B, .res3C, .res3D, .res3E, .res3H, .res3L, .res3IndHl, .res3A].map some := by decide
theorem test_decode_cb_A0 : ([
    [0xCB, 0xA0], [0xCB, 0xA1], [0xCB, 0xA2], [0xCB, 0xA3], [0xCB, 0xA4], [0xCB, 0xA5], [0xCB, 0xA6], [0xCB, 0xA7]] : List (List Byte)).map reads = [
    .res4B, .res4C, .res4D, .res4E, .res4H, .res4L, .res4IndHl, .res4A].map some := by decide
theorem test_decode_cb_A8 : ([
    [0xCB, 0xA8], [0xCB, 0xA9], [0xCB, 0xAA], [0xCB, 0xAB], [0xCB, 0xAC], [0xCB, 0xAD], [0xCB, 0xAE], [0xCB, 0xAF]] : List (List Byte)).map reads = [
    .res5B, .res5C, .res5D, .res5E, .res5H, .res5L, .res5IndHl, .res5A].map some := by decide
theorem test_decode_cb_B0 : ([
    [0xCB, 0xB0], [0xCB, 0xB1], [0xCB, 0xB2], [0xCB, 0xB3], [0xCB, 0xB4], [0xCB, 0xB5], [0xCB, 0xB6], [0xCB, 0xB7]] : List (List Byte)).map reads = [
    .res6B, .res6C, .res6D, .res6E, .res6H, .res6L, .res6IndHl, .res6A].map some := by decide
theorem test_decode_cb_B8 : ([
    [0xCB, 0xB8], [0xCB, 0xB9], [0xCB, 0xBA], [0xCB, 0xBB], [0xCB, 0xBC], [0xCB, 0xBD], [0xCB, 0xBE], [0xCB, 0xBF]] : List (List Byte)).map reads = [
    .res7B, .res7C, .res7D, .res7E, .res7H, .res7L, .res7IndHl, .res7A].map some := by decide
theorem test_decode_cb_C0 : ([
    [0xCB, 0xC0], [0xCB, 0xC1], [0xCB, 0xC2], [0xCB, 0xC3], [0xCB, 0xC4], [0xCB, 0xC5], [0xCB, 0xC6], [0xCB, 0xC7]] : List (List Byte)).map reads = [
    .set0B, .set0C, .set0D, .set0E, .set0H, .set0L, .set0IndHl, .set0A].map some := by decide
theorem test_decode_cb_C8 : ([
    [0xCB, 0xC8], [0xCB, 0xC9], [0xCB, 0xCA], [0xCB, 0xCB], [0xCB, 0xCC], [0xCB, 0xCD], [0xCB, 0xCE], [0xCB, 0xCF]] : List (List Byte)).map reads = [
    .set1B, .set1C, .set1D, .set1E, .set1H, .set1L, .set1IndHl, .set1A].map some := by decide
theorem test_decode_cb_D0 : ([
    [0xCB, 0xD0], [0xCB, 0xD1], [0xCB, 0xD2], [0xCB, 0xD3], [0xCB, 0xD4], [0xCB, 0xD5], [0xCB, 0xD6], [0xCB, 0xD7]] : List (List Byte)).map reads = [
    .set2B, .set2C, .set2D, .set2E, .set2H, .set2L, .set2IndHl, .set2A].map some := by decide
theorem test_decode_cb_D8 : ([
    [0xCB, 0xD8], [0xCB, 0xD9], [0xCB, 0xDA], [0xCB, 0xDB], [0xCB, 0xDC], [0xCB, 0xDD], [0xCB, 0xDE], [0xCB, 0xDF]] : List (List Byte)).map reads = [
    .set3B, .set3C, .set3D, .set3E, .set3H, .set3L, .set3IndHl, .set3A].map some := by decide
theorem test_decode_cb_E0 : ([
    [0xCB, 0xE0], [0xCB, 0xE1], [0xCB, 0xE2], [0xCB, 0xE3], [0xCB, 0xE4], [0xCB, 0xE5], [0xCB, 0xE6], [0xCB, 0xE7]] : List (List Byte)).map reads = [
    .set4B, .set4C, .set4D, .set4E, .set4H, .set4L, .set4IndHl, .set4A].map some := by decide
theorem test_decode_cb_E8 : ([
    [0xCB, 0xE8], [0xCB, 0xE9], [0xCB, 0xEA], [0xCB, 0xEB], [0xCB, 0xEC], [0xCB, 0xED], [0xCB, 0xEE], [0xCB, 0xEF]] : List (List Byte)).map reads = [
    .set5B, .set5C, .set5D, .set5E, .set5H, .set5L, .set5IndHl, .set5A].map some := by decide
theorem test_decode_cb_F0 : ([
    [0xCB, 0xF0], [0xCB, 0xF1], [0xCB, 0xF2], [0xCB, 0xF3], [0xCB, 0xF4], [0xCB, 0xF5], [0xCB, 0xF6], [0xCB, 0xF7]] : List (List Byte)).map reads = [
    .set6B, .set6C, .set6D, .set6E, .set6H, .set6L, .set6IndHl, .set6A].map some := by decide
theorem test_decode_cb_F8 : ([
    [0xCB, 0xF8], [0xCB, 0xF9], [0xCB, 0xFA], [0xCB, 0xFB], [0xCB, 0xFC], [0xCB, 0xFD], [0xCB, 0xFE], [0xCB, 0xFF]] : List (List Byte)).map reads = [
    .set7B, .set7C, .set7D, .set7E, .set7H, .set7L, .set7IndHl, .set7A].map some := by decide

/-! ### The opcode table's numbering of words (log 9) -/

theorem test_table_word_cb : decodeTableWord 16 0xCB37 = some .swapA := by decide
theorem test_table_word_cb_prefix : decodeTableWord 8 0xCB = some .cbPrefix := by decide
theorem test_table_word_operands_zero : decodeTableWord 8 0xC3 = some (.jpNn 0x0000) := by decide
theorem test_table_word_operands : decodeTableWord 24 0x1234C3 = some (.jpNn 0x1234) := by decide

/-! ### Vectors of 95_test_vectors.md section 2 -/

/-- The common start state of the vectors. -/
def start : State := { State.init Config.default with pc := 0xC000, sp := 0xD000, flags := Flags.ofByte 0x00, if5 := 0 }

/-- A state with bytes placed in its RAM. -/
def place (cells : List (Nat × Byte)) (s : State) : State :=
  { s with mem := cells.foldl (fun m p => Mem.write m p.1 p.2) s.mem }

/-- The step from `s` goes on, to a state that `p` accepts. -/
def next (s : State) (p : State → Bool) : Bool :=
  match step s with
  | .next t => p t
  | .fault _ => false
  | .refused _ => false

/-- V1 (R193). -/
theorem test_v1_add_a_b : next (place [(0xC000, 0x80)] { start with a := 0x3A, b := 0xC6 }) (fun t =>
    t.a == 0x00 && t.flags == ⟨true, false, true, true⟩ && t.pc == 0xC001) = true := by decide
/-- V2 (R194). -/
theorem test_v2_add_a_hl : next (place [(0xC000, 0x86), (0xC800, 0x12)] { start with a := 0x3C, h := 0xC8, l := 0x00 }) (fun t =>
    t.a == 0x4E && t.flags == ⟨false, false, false, false⟩ && t.pc == 0xC001) = true := by decide
/-- V6 (R198). -/
theorem test_v6_adc_a_n : next (place [(0xC000, 0xCE), (0xC001, 0x00)] { start with a := 0xFF, flags := ⟨false, false, false, true⟩ }) (fun t =>
    t.a == 0x00 && t.flags == ⟨true, false, true, true⟩ && t.pc == 0xC002) = true := by decide
/-- V10 (R201). -/
theorem test_v10_sub_n : next (place [(0xC000, 0xD6), (0xC001, 0x01)] { start with a := 0x00 }) (fun t =>
    t.a == 0xFF && t.flags == ⟨false, true, true, true⟩ && t.pc == 0xC002) = true := by decide
/-- V12 (R204). -/
theorem test_v12_sbc_a_n : next (place [(0xC000, 0xDE), (0xC001, 0xFF)] { start with a := 0x00, flags := ⟨false, false, false, true⟩ }) (fun t =>
    t.flags == ⟨true, true, true, true⟩ && t.pc == 0xC002) = true := by decide
/-- V13 (R205). -/
theorem test_v13_and_c : next (place [(0xC000, 0xA1)] { start with a := 0x5A, c := 0x3F }) (fun t =>
    t.a == 0x1A && t.flags == ⟨false, false, true, false⟩ && t.pc == 0xC001) = true := by decide
/-- V15 (R208). -/
theorem test_v15_xor_a : next (place [(0xC000, 0xAF)] { start with a := 0x5A, flags := ⟨false, true, true, true⟩ }) (fun t =>
    t.a == 0x00 && t.flags == ⟨true, false, false, false⟩ && t.pc == 0xC001) = true := by decide
/-- V18 (R214). -/
theorem test_v18_or_n : next (place [(0xC000, 0xF6), (0xC001, 0x01)] { start with a := 0x00 }) (fun t =>
    t.a == 0x01 && t.flags == ⟨false, false, false, false⟩ && t.pc == 0xC002) = true := by decide
/-- V19 (R215). -/
theorem test_v19_cp_b : next (place [(0xC000, 0xB8)] { start with a := 0x3C, b := 0x2F }) (fun t =>
    t.flags == ⟨false, true, true, false⟩ && t.pc == 0xC001) = true := by decide
/-- V21 (R216). -/
theorem test_v21_cp_n : next (place [(0xC000, 0xFE), (0xC001, 0x40)] { start with a := 0x3C }) (fun t =>
    t.flags == ⟨false, true, false, true⟩ && t.pc == 0xC002) = true := by decide
/-- V22 (R217). -/
theorem test_v22_inc_a : next (place [(0xC000, 0x3C)] { start with a := 0xFF, flags := ⟨false, false, false, true⟩ }) (fun t =>
    t.a == 0x00 && t.flags == ⟨true, false, true, true⟩ && t.pc == 0xC001) = true := by decide
/-- V24 (R218). -/
theorem test_v24_inc_hl : next (place [(0xC000, 0x34), (0xC800, 0x7F)] { start with h := 0xC8, l := 0x00 }) (fun t =>
    t.flags == ⟨false, false, true, false⟩ && t.pc == 0xC001 && ramByte 0xC800 t == 0x80) = true := by decide
/-- V26 (R219). -/
theorem test_v26_dec_a : next (place [(0xC000, 0x3D)] { start with a := 0x00, flags := ⟨false, false, false, true⟩ }) (fun t =>
    t.a == 0xFF && t.flags == ⟨false, true, true, true⟩ && t.pc == 0xC001) = true := by decide
/-- V27 (R220). -/
theorem test_v27_dec_hl : next (place [(0xC000, 0x35), (0xC800, 0x10)] { start with h := 0xC8, l := 0x00 }) (fun t =>
    t.flags == ⟨false, true, true, false⟩ && t.pc == 0xC001 && ramByte 0xC800 t == 0x0F) = true := by decide
/-- V28 (R221). -/
theorem test_v28_daa : next (place [(0xC000, 0x27)] { start with a := 0x7D }) (fun t =>
    t.a == 0x83 && t.flags == ⟨false, false, false, false⟩ && t.pc == 0xC001) = true := by decide
/-- V30 (R221). -/
theorem test_v30_daa : next (place [(0xC000, 0x27)] { start with a := 0x4B, flags := ⟨false, true, true, false⟩ }) (fun t =>
    t.a == 0x45 && t.flags == ⟨false, true, false, false⟩ && t.pc == 0xC001) = true := by decide
/-- V33 (R222). -/
theorem test_v33_cpl : next (place [(0xC000, 0x2F)] { start with a := 0x35, flags := ⟨true, false, false, true⟩ }) (fun t =>
    t.a == 0xCA && t.flags == ⟨true, true, true, true⟩ && t.pc == 0xC001) = true := by decide
/-- V34 (R223). -/
theorem test_v34_scf : next (place [(0xC000, 0x37)] { start with flags := ⟨true, true, true, false⟩ }) (fun t =>
    t.flags == ⟨true, false, false, true⟩ && t.pc == 0xC001) = true := by decide
/-- V35 (R224). -/
theorem test_v35_ccf : next (place [(0xC000, 0x3F)] { start with flags := ⟨false, true, true, true⟩ }) (fun t =>
    t.flags == ⟨false, false, false, false⟩ && t.pc == 0xC001) = true := by decide
/-- V36 (R242). -/
theorem test_v36_add_hl_bc : next (place [(0xC000, 0x09)] { start with h := 0x8A, l := 0x23, b := 0x06, c := 0x05, flags := ⟨true, false, false, false⟩ }) (fun t =>
    t.h == 0x90 && t.l == 0x28 && t.flags == ⟨true, false, true, false⟩ && t.pc == 0xC001) = true := by decide
/-- V38 (R242). -/
theorem test_v38_add_hl_sp : next (place [(0xC000, 0x39)] { start with h := 0xF0, l := 0x00, sp := 0x1000 }) (fun t =>
    t.h == 0x00 && t.flags == ⟨false, false, false, true⟩ && t.pc == 0xC001) = true := by decide
/-- V39 (R243). -/
theorem test_v39_inc_bc : next (place [(0xC000, 0x03)] { start with b := 0xFF, c := 0xFF, flags := ⟨false, false, false, false⟩ }) (fun t =>
    t.b == 0x00 && t.c == 0x00 && t.flags == ⟨false, false, false, false⟩ && t.pc == 0xC001) = true := by decide
/-- V42 (R245). -/
theorem test_v42_add_sp_e : next (place [(0xC000, 0xE8), (0xC001, 0xFF)] { start with sp := 0x0001 }) (fun t =>
    t.sp == 0x0000 && t.flags == ⟨false, false, true, true⟩ && t.pc == 0xC002) = true := by decide
/-- V44 (R246). -/
theorem test_v44_ld_hl_sp_e : next (place [(0xC000, 0xF8), (0xC001, 0xFF)] { start with sp := 0xD00F }) (fun t =>
    t.h == 0xD0 && t.l == 0x0E && t.flags == ⟨false, false, true, true⟩ && t.pc == 0xC002) = true := by decide
/-- V47 (R258). -/
theorem test_v47_rlca : next (place [(0xC000, 0x07)] { start with a := 0x00, flags := ⟨true, false, false, false⟩ }) (fun t =>
    t.flags == ⟨false, false, false, false⟩ && t.pc == 0xC001) = true := by decide
/-- V50 (R261). -/
theorem test_v50_rra : next (place [(0xC000, 0x1F)] { start with a := 0x81, flags := ⟨false, false, false, true⟩ }) (fun t =>
    t.a == 0xC0 && t.flags == ⟨false, false, false, true⟩ && t.pc == 0xC001) = true := by decide
/-- V53 (R263). -/
theorem test_v53_rlc_hl : next (place [(0xC000, 0xCB), (0xC001, 0x06), (0xC800, 0x80)] { start with h := 0xC8, l := 0x00 }) (fun t =>
    t.flags == ⟨false, false, false, true⟩ && t.pc == 0xC002 && ramByte 0xC800 t == 0x01) = true := by decide
/-- V56 (R268). -/
theorem test_v56_rr_a : next (place [(0xC000, 0xCB), (0xC001, 0x1F)] { start with a := 0x01 }) (fun t =>
    t.a == 0x00 && t.flags == ⟨true, false, false, true⟩ && t.pc == 0xC002) = true := by decide
/-- V57 (R270). -/
theorem test_v57_sla_d : next (place [(0xC000, 0xCB), (0xC001, 0x22)] { start with d := 0x80 }) (fun t =>
    t.d == 0x00 && t.flags == ⟨true, false, false, true⟩ && t.pc == 0xC002) = true := by decide
/-- V58 (R272). -/
theorem test_v58_sra_a : next (place [(0xC000, 0xCB), (0xC001, 0x2F)] { start with a := 0x8A }) (fun t =>
    t.a == 0xC5 && t.flags == ⟨false, false, false, false⟩ && t.pc == 0xC002) = true := by decide
/-- V60 (R274). -/
theorem test_v60_swap_a : next (place [(0xC000, 0xCB), (0xC001, 0x37)] { start with a := 0xF0, flags := ⟨false, false, false, true⟩ }) (fun t =>
    t.a == 0x0F && t.flags == ⟨false, false, false, false⟩ && t.pc == 0xC002) = true := by decide
/-- V62 (R275). -/
theorem test_v62_swap_hl : next (place [(0xC000, 0xCB), (0xC001, 0x36), (0xC800, 0x12)] { start with h := 0xC8, l := 0x00 }) (fun t =>
    t.flags == ⟨false, false, false, false⟩ && t.pc == 0xC002 && ramByte 0xC800 t == 0x21) = true := by decide
/-- V64 (R276). -/
theorem test_v64_srl_h : next (place [(0xC000, 0xCB), (0xC001, 0x3C)] { start with h := 0xFF }) (fun t =>
    t.h == 0x7F && t.flags == ⟨false, false, false, true⟩ && t.pc == 0xC002) = true := by decide
/-- V66 (R290). -/
theorem test_v66_bit_7_h : next (place [(0xC000, 0xCB), (0xC001, 0x7C)] { start with h := 0x80, flags := ⟨false, false, false, true⟩ }) (fun t =>
    t.flags == ⟨false, false, true, true⟩ && t.pc == 0xC002) = true := by decide
/-- V68 (R291). -/
theorem test_v68_bit_0_hl : next (place [(0xC000, 0xCB), (0xC001, 0x46), (0xC800, 0xFE)] { start with h := 0xC8, l := 0x00 }) (fun t =>
    t.flags == ⟨true, false, true, false⟩ && t.pc == 0xC002) = true := by decide
/-- V69 (R292). -/
theorem test_v69_res_7_a : next (place [(0xC000, 0xCB), (0xC001, 0xBF)] { start with a := 0xFF, flags := ⟨true, true, true, true⟩ }) (fun t =>
    t.a == 0x7F && t.flags == ⟨true, true, true, true⟩ && t.pc == 0xC002) = true := by decide
/-- V72 (R295). -/
theorem test_v72_set_3_hl : next (place [(0xC000, 0xCB), (0xC001, 0xDE), (0xC800, 0x00)] { start with h := 0xC8, l := 0x00 }) (fun t =>
    t.flags == ⟨false, false, false, false⟩ && t.pc == 0xC002 && ramByte 0xC800 t == 0x08) = true := by decide
/-- V74 (R302). -/
theorem test_v74_jp_nz_nn : next (place [(0xC000, 0xC2), (0xC001, 0x34), (0xC002, 0x12)] { start with flags := ⟨false, false, false, false⟩ }) (fun t =>
    t.flags == ⟨false, false, false, false⟩ && t.pc == 0x1234) = true := by decide
/-- V75 (R302). -/
theorem test_v75_jp_z_nn : next (place [(0xC000, 0xCA), (0xC001, 0x34), (0xC002, 0x12)] { start with flags := ⟨false, false, false, false⟩ }) (fun t =>
    t.flags == ⟨false, false, false, false⟩ && t.pc == 0xC003) = true := by decide
/-- V76 (R303). -/
theorem test_v76_jp_hl : next (place [(0xC000, 0xE9)] { start with h := 0xC1, l := 0x23 }) (fun t =>
    t.flags == ⟨false, false, false, false⟩ && t.pc == 0xC123) = true := by decide
/-- V78 (R304). -/
theorem test_v78_jr_e : next (place [(0xC000, 0x18), (0xC001, 0xFE)] start) (fun t =>
    t.flags == ⟨false, false, false, false⟩ && t.pc == 0xC000) = true := by decide
/-- V80 (R305). -/
theorem test_v80_jr_c_e : next (place [(0xC000, 0x38), (0xC001, 0x80)] { start with flags := ⟨false, false, false, true⟩ }) (fun t =>
    t.flags == ⟨false, false, false, true⟩ && t.pc == 0xBF82) = true := by decide
/-- V81 (R306). -/
theorem test_v81_call_nn : next (place [(0xC000, 0xCD), (0xC001, 0x00), (0xC002, 0xC8)] start) (fun t =>
    t.sp == 0xCFFE && t.flags == ⟨false, false, false, false⟩ && t.pc == 0xC800 && ramByte 0xCFFF t == 0xC0 && ramByte 0xCFFE t == 0x03) = true := by decide
/-- V82 (R307). -/
theorem test_v82_call_c_nn : next (place [(0xC000, 0xDC), (0xC001, 0x00), (0xC002, 0xC8)] { start with flags := ⟨false, false, false, false⟩ }) (fun t =>
    t.flags == ⟨false, false, false, false⟩ && t.pc == 0xC003) = true := by decide
/-- V84 (R309). -/
theorem test_v84_ret_z : next (place [(0xC000, 0xC8), (0xCFFE, 0x34), (0xCFFF, 0x12)] { start with flags := ⟨true, false, false, false⟩, sp := 0xCFFE }) (fun t =>
    t.sp == 0xD000 && t.flags == ⟨true, false, false, false⟩ && t.pc == 0x1234) = true := by decide
/-- V85 (R309). -/
theorem test_v85_ret_nz : next (place [(0xC000, 0xC0), (0xCFFE, 0x34), (0xCFFF, 0x12)] { start with flags := ⟨true, false, false, false⟩, sp := 0xCFFE }) (fun t =>
    t.flags == ⟨true, false, false, false⟩ && t.pc == 0xC001) = true := by decide
/-- V86 (R310). -/
theorem test_v86_reti : next (place [(0xC000, 0xD9), (0xCFFE, 0x34), (0xCFFF, 0x12)] { start with sp := 0xCFFE }) (fun t =>
    t.sp == 0xD000 && t.ime == true && t.flags == ⟨false, false, false, false⟩ && t.pc == 0x1234) = true := by decide
/-- V87 (R311). -/
theorem test_v87_rst_0x38 : next (place [(0xC000, 0xFF)] start) (fun t =>
    t.sp == 0xCFFE && t.flags == ⟨false, false, false, false⟩ && t.pc == 0x0038 && ramByte 0xCFFF t == 0xC0 && ramByte 0xCFFE t == 0x01) = true := by decide
/-- V88 (R311). -/
theorem test_v88_rst_0x08 : next (place [(0xC000, 0xCF)] { start with sp := 0x0001 }) (fun t =>
    t.sp == 0xFFFF && t.ie == 0x01 && t.flags == ⟨false, false, false, false⟩ && t.pc == 0x0008 && ramByte 0x0000 t == 0xC0) = true := by decide
/-- V90 (R322). -/
theorem test_v90_push_af : next (place [(0xC000, 0xF5)] { start with a := 0x12, flags := ⟨true, false, true, true⟩ }) (fun t =>
    t.sp == 0xCFFE && t.flags == ⟨true, false, true, true⟩ && t.pc == 0xC001 && ramByte 0xCFFF t == 0x12 && ramByte 0xCFFE t == 0xB0) = true := by decide
/-- V92 (R324). -/
theorem test_v92_pop_af : next (place [(0xC000, 0xF1), (0xCFFE, 0xFF), (0xCFFF, 0x12)] { start with sp := 0xCFFE }) (fun t =>
    t.a == 0x12 && t.sp == 0xD000 && t.flags == ⟨true, true, true, true⟩ && t.pc == 0xC001) = true := by decide
/-- V93 (R325). -/
theorem test_v93_ld_sp_hl : next (place [(0xC000, 0xF9)] { start with h := 0xDF, l := 0xF0 }) (fun t =>
    t.sp == 0xDFF0 && t.flags == ⟨false, false, false, false⟩ && t.pc == 0xC001) = true := by decide
/-- V94 (R326). -/
theorem test_v94_ld_nn_sp : next (place [(0xC000, 0x08), (0xC001, 0x00), (0xC002, 0xC8)] { start with sp := 0xFFF8 }) (fun t =>
    t.flags == ⟨false, false, false, false⟩ && t.pc == 0xC003 && ramByte 0xC800 t == 0xF8 && ramByte 0xC801 t == 0xFF) = true := by decide
/-- V95 (R327). -/
theorem test_v95_ld_sp_nn : next (place [(0xC000, 0x31), (0xC001, 0xFE), (0xC002, 0xFF)] start) (fun t =>
    t.sp == 0xFFFE && t.flags == ⟨false, false, false, false⟩ && t.pc == 0xC003) = true := by decide
/-- V99 (R337). -/
theorem test_v99_ld_l_hl : next (place [(0xC000, 0x6E), (0xC800, 0x77)] { start with h := 0xC8, l := 0x00 }) (fun t =>
    t.l == 0x77 && t.flags == ⟨false, false, false, false⟩ && t.pc == 0xC001) = true := by decide
/-- V100 (R338). -/
theorem test_v100_ld_hl_h : next (place [(0xC000, 0x74)] { start with h := 0xC8, l := 0x00 }) (fun t =>
    t.flags == ⟨false, false, false, false⟩ && t.pc == 0xC001 && ramByte 0xC800 t == 0xC8) = true := by decide
/-- V101 (R339). -/
theorem test_v101_ld_hl_n : next (place [(0xC000, 0x36), (0xC001, 0x42)] { start with h := 0xC8, l := 0x00 }) (fun t =>
    t.flags == ⟨false, false, false, false⟩ && t.pc == 0xC002 && ramByte 0xC800 t == 0x42) = true := by decide
/-- V102 (R340). -/
theorem test_v102_ld_a_bc : next (place [(0xC000, 0x0A), (0xC800, 0x3C)] { start with b := 0xC8, c := 0x00 }) (fun t =>
    t.a == 0x3C && t.flags == ⟨false, false, false, false⟩ && t.pc == 0xC001) = true := by decide
/-- V103 (R343). -/
theorem test_v103_ld_de_a : next (place [(0xC000, 0x12)] { start with d := 0xC8, e := 0x00, a := 0x77 }) (fun t =>
    t.flags == ⟨false, false, false, false⟩ && t.pc == 0xC001 && ramByte 0xC800 t == 0x77) = true := by decide
/-- V104 (R346). -/
theorem test_v104_ld_hl_a : next (place [(0xC000, 0x22)] { start with h := 0xC8, l := 0xFF, a := 0x01 }) (fun t =>
    t.h == 0xC9 && t.l == 0x00 && t.flags == ⟨false, false, false, false⟩ && t.pc == 0xC001 && ramByte 0xC8FF t == 0x01) = true := by decide
/-- V105 (R345). -/
theorem test_v105_ld_a_hl : next (place [(0xC000, 0x3A), (0x0000, 0x5E)] { start with h := 0x00, l := 0x00 }) (fun t =>
    t.a == 0x5E && t.h == 0xFF && t.l == 0xFF && t.flags == ⟨false, false, false, false⟩ && t.pc == 0xC001) = true := by decide
/-- V107 (R349). -/
theorem test_v107_ld_nn_a : next (place [(0xC000, 0xEA), (0xC001, 0xFF), (0xC002, 0xFF)] { start with a := 0x1F }) (fun t =>
    t.ie == 0x1F && t.flags == ⟨false, false, false, false⟩ && t.pc == 0xC003) = true := by decide
/-- V108 (R350). -/
theorem test_v108_ldh_a_n : next (place [(0xC000, 0xF0), (0xC001, 0x0F)] { start with if5 := 0x01 }) (fun t =>
    t.a == 0xE1 && t.flags == ⟨false, false, false, false⟩ && t.pc == 0xC002) = true := by decide
/-- V111 (R353). -/
theorem test_v111_ldh_c_a : next (place [(0xC000, 0xE2)] { start with c := 0x0F, a := 0x04 }) (fun t =>
    t.if5 == 0x04 && t.flags == ⟨false, false, false, false⟩ && t.pc == 0xC001) = true := by decide
/-- V114 (R366). -/
theorem test_v114_halt : next (place [(0xC000, 0x76)] { start with ie := 0x01, if5 := 0x01 }) (fun t =>
    t.runState == .haltedBug && t.flags == ⟨false, false, false, false⟩ && t.pc == 0xC001) = true := by decide
/-- V115 (R367). -/
theorem test_v115_stop : next (place [(0xC000, 0x10), (0xC001, 0x00)] start) (fun t =>
    t.runState == .stopped && t.flags == ⟨false, false, false, false⟩ && t.pc == 0xC002) = true := by decide
/-- V116 (R368). -/
theorem test_v116_di : next (place [(0xC000, 0xF3)] { start with ime := true }) (fun t =>
    t.ime == false && t.flags == ⟨false, false, false, false⟩ && t.pc == 0xC001) = true := by decide
/-- V117 (R368). -/
theorem test_v117_di : next (place [(0xC000, 0xF3)] { start with imePending := true }) (fun t =>
    t.imePending == false && t.flags == ⟨false, false, false, false⟩ && t.pc == 0xC001) = true := by decide
/-- V118 (R369). -/
theorem test_v118_ei : next (place [(0xC000, 0xFB)] start) (fun t =>
    t.imePending == true && t.flags == ⟨false, false, false, false⟩ && t.pc == 0xC001) = true := by decide
/-- V120 (R371). -/
theorem test_v120_illegal_0xd3 : (match step (place [(0xC000, 0xD3)] start) with
    | .fault (.illegalOpcode op pc _) => op == 0xD3 && pc == 0xC000
    | _ => false) = true := by decide

/-! ### Scenarios of 95_test_vectors.md section 3, one step each -/

/-- S1: a dispatch at the start of a tick, in five cycles. -/
theorem test_s1_interrupt_latency :
    next { start with pc := 0x0150, sp := 0xFFFE, ime := true, ie := 0x01, if5 := 0x01
                      ext := [[], [], [], [], [], [.request 4]] } (fun t =>
      t.pc == 0x0040 && t.sp == 0xFFFC && ramByte 0xFFFD t == 0x01 && ramByte 0xFFFC t == 0x50 && !t.ime &&
      t.if5 == 0x00 && t.ext == [[.request 4]]) = true := by decide
/-- S3, tick 3: a request in the callback of an idle cycle is dispatched in the same tick. -/
theorem test_s3_wake_in_callback :
    next { start with pc := 0xC001, ime := true, ie := 0x04, runState := .halted, ext := [[.request 2]] } (fun t =>
      t.pc == 0x0050 && t.sp == 0xCFFE && ramByte 0xCFFE t == 0x01 && t.runState == .normal) = true := by decide
/-- S3's callback given at construction (R9, R420): its third call is the request. -/
theorem test_s3_callback_at_construction :
    construct { Config.default with callback := ⟨[[], [], [.request 2]], .noop⟩ } =
      .next { State.reset with
        ext := [[], [], [.request 2]]
        cfg := { Config.default with callback := ⟨[[], [], [.request 2]], .noop⟩ } } := rfl
/-- A timer that requests bit 2 in every third cycle and never ends (R9): its 3rd call requests, its 4th does not. -/
theorem test_looping_callback :
    let timer : State := { start with cfg := { Config.default with callback := ⟨[], .loop [[], [], [.request 2]]⟩ } }
    (match internals 3 timer, internals 4 { timer with extCalls := 3 } with
     | .ok _ t, .ok _ u => t.if5 == 0x04 && t.extCalls == 3 && u.if5 == 0x04 && u.extCalls == 7
     | _, _ => false) = true ∧
    (match internals 2 timer with | .ok _ t => t.if5 == 0x00 | _ => false) = true := by decide
/-- S4, tick 1: EI does not dispatch. -/
theorem test_s4_ei_delay :
    next (place [(0xC000, 0xFB)] { start with ie := 0x01, if5 := 0x01 }) (fun t =>
      t.pc == 0xC001 && t.imePending && !t.ime) = true := by decide
/-- S4, tick 2: the instruction after EI runs, then the dispatch. -/
theorem test_s4_after_ei :
    next { start with pc := 0xC001, ie := 0x01, if5 := 0x01, imePending := true } (fun t =>
      t.pc == 0x0040 && ramByte 0xCFFE t == 0x02 && !t.ime && !t.imePending) = true := by decide
/-- S5: Timer before Joypad. -/
theorem test_s5_priority :
    next { start with ime := true, ie := 0x1F, if5 := 0x14 } (fun t => t.pc == 0x0050 && t.if5 == 0x10) = true := by
  decide
/-- S6: bits 7 to 5 of IE enable nothing. -/
theorem test_s6_ie_high_bits :
    next { start with pc := 0xC001, ime := true, ie := 0xE0, if5 := 0x1F, runState := .halted } (fun t =>
      t.runState == .halted && t.pc == 0xC001) = true := by decide
/-- S7, tick 2: the HALT bug reads the byte after HALT twice. -/
theorem test_s7_halt_bug :
    next (place [(0xC001, 0xCB), (0xC002, 0x37)] { start with pc := 0xC001, runState := .haltedBug }) (fun t =>
      t.e == 0xDA && t.pc == 0xC002 && t.runState == .normal) = true := by decide
/-- S9, tick 3, and S10, tick 2: the two values of `STOP_WAKE`. -/
theorem test_s9_stop_wakes :
    next (place [(0xC002, 0x3C)] { start with pc := 0xC002, runState := .stopped, ie := 0x10, if5 := 0x10 }) (fun t =>
      t.a == 0x02 && t.runState == .normal) = true := by decide
theorem test_s10_stop_never_wakes :
    next { start with pc := 0xC002, runState := .stopped, ie := 0x10, if5 := 0x10
                      cfg := { Config.default with stopWake := .never } } (fun t =>
      t.pc == 0xC002 && t.runState == .stopped) = true := by decide
/-- S11: an unmapped read, with the fetches done and A as it was. -/
theorem test_s11_unmapped_read :
    (match step (place [(0xC000, 0xFA), (0xC001, 0x00), (0xC002, 0x80)] { start with
        cfg := { Config.default with devices := [⟨.ram, [⟨0xC000, 0xCFFF⟩]⟩] } }) with
      | .fault (.unmappedAddress a acc left) => a == 0x8000 && acc == .read && left.pc == 0xC003 && left.a == 0x01
      | _ => false) = true := by decide
/-- S12, tick 1: the write of the third cycle leaves a delay of 3. -/
theorem test_s12_dma_armed :
    next (place [(0xC100, 0xE0), (0xC101, 0x46)] { start with pc := 0xC100, a := 0xC0 }) (fun t =>
      t.dmaDelay == 3 && !t.dmaActive && t.dmaReg == 0xC0) = true := by decide
/-- S12: the cycle that starts the transfer, and its last cycle. -/
theorem test_s12_dma_starts :
    next { start with dmaDelay := 1, dmaReg := 0xC0 } (fun t =>
      t.dmaActive && t.dmaIndex == 0 && t.dmaSrc == 0xC0) = true := by decide
theorem test_s12_dma_ends :
    next (place [(0xFF80, 0x00), (0xC09F, 0x77)] { start with
      pc := 0xFF80, dmaActive := true, dmaIndex := 159, dmaSrc := 0xC0 }) (fun t =>
      !t.dmaActive && t.dmaIndex == 160 && ramByte 0xFE9F t == 0x77) = true := by decide

/-! ### The host's entry points -/

theorem test_construct_overlap :
    construct { Config.default with devices := [⟨.ram, [⟨0xFF00, 0xFFFF⟩]⟩] } = .fault (.attachOverlap 0xFF0F) := rfl
/-- E6: AF(0x12FF) reads back as 0x12F0. -/
theorem test_af_masks_low_nibble : (start.setAf 0x12FF).af = 0x12F0 := by decide
theorem test_withFetchWord :
    next (State.reset.withFetchWord 16 0xCB37) (fun t => t.a == 0x10 && t.pc == 0x0102) = true := by decide

/-! ### Witnesses: states and operands that meet the hypotheses of the statements -/

/-- A platform where only the CPU's own three addresses have an owner. -/
def hole : State := { start with cfg := { Config.default with devices := [] } }
/-- RAM at 0xCFFF alone, where the first byte of a push from SP = 0xD000 goes. -/
def halfStack : State := { start with cfg := { Config.default with devices := [⟨.ram, [⟨0xCFFF, 0xCFFF⟩]⟩] } }
/-- RAM at 0xD000 alone, where the first byte of a pop from SP = 0xD000 is. -/
def halfPop : State := { start with cfg := { Config.default with devices := [⟨.ram, [⟨0xD000, 0xD000⟩]⟩] } }
/-- RAM where HL points, and nowhere else. -/
def halfHl : State := { start with cfg := { Config.default with devices := [⟨.ram, [⟨0x014D, 0x014D⟩]⟩] } }
/-- The callback of the next cycle faults. -/
def callbackFaults : State := { hole with ext := [[.read 0x0000]] }
/-- A running transfer. -/
def copying : State := { start with dmaActive := true, dmaSrc := 0xC0 }

/-- The default platform has RAM at every address but the CPU's own three. -/
theorem default_ram (a : Word) (n1 : a.toNat ≠ 0xFF0F) (n2 : a.toNat ≠ 0xFF46) (n3 : a.toNat ≠ 0xFFFF) :
    deviceMap Config.default a = some .ram := by
  have h := a.isLt
  have r : inRanges [⟨0x0000, 0xFF0E⟩, ⟨0xFF10, 0xFF45⟩, ⟨0xFF47, 0xFFFE⟩] a = true := by
    simp [inRanges, rangeHas]
    omega
  unfold deviceMap
  split
  · rename_i e
    rcases e with rfl | rfl | rfl
    · exact absurd rfl n1
    · exact absurd rfl n2
    · exact absurd rfl n3
  · simp only [Config.default, List.find?, r, Option.map_some]
    rfl

theorem default_fullyMapped : FullyMapped Config.default := by
  intro a
  by_cases n1 : a = 0xFF0F
  · subst n1; rfl
  by_cases n2 : a = 0xFF46
  · subst n2; rfl
  by_cases n3 : a = 0xFFFF
  · subst n3; rfl
  rw [default_ram a (fun e => n1 (BitVec.eq_of_toNat_eq e)) (fun e => n2 (BitVec.eq_of_toNat_eq e))
    (fun e => n3 (BitVec.eq_of_toNat_eq e))]
  rfl

theorem start_quiet : Quiet start := ⟨rfl, rfl, rfl, rfl⟩
theorem read_ok : memRead start.hl start = .ok 0x00 start := rfl
theorem read_fault : memRead hole.hl hole = .fault (.unmappedAddress 0x014D .read) hole := rfl
theorem write_ok : memWrite start.hl 0x00 start = .ok () start := rfl
theorem write_fault : memWrite hole.hl 0x00 hole = .fault (.unmappedAddress 0x014D .write) hole := rfl
theorem wait_ok : internal start = .ok () start := rfl
theorem wait_fault : internal callbackFaults = .fault (.unmappedAddress 0x0000 .read) { hole with ext := [] } := rfl
theorem waits_ok : internals 1 start = .ok () start ∧ internals 2 start = .ok () start := ⟨rfl, rfl⟩
theorem waits_fault :
    internals 1 callbackFaults = .fault (.unmappedAddress 0x0000 .read) { hole with ext := [] } ∧
      internals 2 callbackFaults = .fault (.unmappedAddress 0x0000 .read) { hole with ext := [] } := ⟨rfl, rfl⟩
theorem witness_DecodeOfEncode : (Instr.jpNzNn 0xFFFF).wellFormed = true ∧ Instr.set7A.wellFormed = true := by decide
theorem witness_DecodedBytesAreTheEncoding :
    decode [0xFE, 0xFF, 0x00] = .ok (.cpN 0xFF, [0x00]) ∧ decode [0x10, 0x99, 0x00] = .ok (.stop, [0x00]) ∧
      decode [0x10] = .ok (.stop, []) ∧ decode [0xCB] = .ok (.cbPrefix, []) := ⟨rfl, rfl, rfl, rfl⟩
theorem witness_DecoderIsTotal :
    decode [0xC3, 0x34] = .error (.truncated 0xC3) ∧ decode ([0xC3, 0x34] ++ [0x12]) = .ok (.jpNn 0x1234, []) :=
  ⟨rfl, rfl⟩
theorem witness_ConstructionValues :
    Config.default.bootMode = .postBoot ∧ ({ Config.default with bootMode := .bootRom } : Config).bootMode = .bootRom :=
  ⟨rfl, rfl⟩
theorem witness_OverlapIsRejected :
    (cpuRanges :: ([] : List Device).map Device.ranges).Pairwise
        (fun r q => ∀ a : Word, ¬(inRanges r a = true ∧ inRanges q a = true)) ∧
      ¬(cpuRanges :: [Device.mk .ram [⟨0xFF00, 0xFFFF⟩]].map Device.ranges).Pairwise
        (fun r q => ∀ a : Word, ¬(inRanges r a = true ∧ inRanges q a = true)) := by
  refine ⟨List.pairwise_singleton _ _, fun h => ?_⟩
  exact (List.pairwise_cons.mp h).1 _ (List.mem_singleton.mpr rfl) 0xFFFF (by decide)
theorem witness_ViewRoundTrip :
    ({ start with dmaDelay := 4, dmaIndex := 160 } : State).dmaDelay ≤ 4 ∧
      ({ start with dmaDelay := 4, dmaIndex := 160 } : State).dmaIndex ≤ 160 ∧
      start.applyView start.view = some start ∧
      start.applyView { start.view with dmaIndex := 161 } = none := by decide

theorem witness_AddAndAdc :
    (Instr.addAA.shape = .aluReg .add .a ∧ Instr.addAIndHl.shape = .aluHl .add ∧
      (Instr.addAN 0xFF).shape = .aluImm .add 0xFF) ∧
    (Instr.adcAB.shape = .aluReg .adc .b ∧ Instr.adcAIndHl.shape = .aluHl .adc ∧
      (Instr.adcAN 0x00).shape = .aluImm .adc 0x00) ∧
    memRead start.hl start = .ok 0x00 start ∧
      memRead hole.hl hole = .fault (.unmappedAddress 0x014D .read) hole :=
  ⟨⟨rfl, rfl, rfl⟩, ⟨rfl, rfl, rfl⟩, read_ok, read_fault⟩
theorem witness_SubAndSbc :
    (Instr.subA.shape = .aluReg .sub .a ∧ Instr.subIndHl.shape = .aluHl .sub ∧
      (Instr.subN 0xFF).shape = .aluImm .sub 0xFF) ∧
    (Instr.sbcAB.shape = .aluReg .sbc .b ∧ Instr.sbcAIndHl.shape = .aluHl .sbc ∧
      (Instr.sbcAN 0x00).shape = .aluImm .sbc 0x00) ∧
    memRead start.hl start = .ok 0x00 start ∧
      memRead hole.hl hole = .fault (.unmappedAddress 0x014D .read) hole :=
  ⟨⟨rfl, rfl, rfl⟩, ⟨rfl, rfl, rfl⟩, read_ok, read_fault⟩
theorem witness_AndXorOr :
    (Instr.andA.shape = .aluReg .and .a ∧ Instr.xorIndHl.shape = .aluHl .xor ∧
      (Instr.orN 0x01).shape = .aluImm .or 0x01) ∧
    memRead start.hl start = .ok 0x00 start ∧
      memRead hole.hl hole = .fault (.unmappedAddress 0x014D .read) hole :=
  ⟨⟨rfl, rfl, rfl⟩, read_ok, read_fault⟩
theorem witness_CompareWritesOnlyFlags :
    (Instr.cpA.shape = .aluReg .cp .a ∧ Instr.cpIndHl.shape = .aluHl .cp ∧ (Instr.cpN 0xFF).shape = .aluImm .cp 0xFF) ∧
    memRead start.hl start = .ok 0x00 start ∧
      memRead hole.hl hole = .fault (.unmappedAddress 0x014D .read) hole :=
  ⟨⟨rfl, rfl, rfl⟩, read_ok, read_fault⟩
/-- The read and the write of a read-modify-write form, each succeeding and each faulting: the write faults where the
callback of its own cycle does. -/
theorem witness_modify :
    (memRead start.hl start = .ok 0x00 start ∧ memWrite start.hl 0x00 start = .ok () start) ∧
      memRead hole.hl hole = .fault (.unmappedAddress 0x014D .read) hole ∧
      memRead halfHl.hl { halfHl with ext := [[], [.read 0x0000]] } =
        .ok 0x00 { halfHl with ext := [[.read 0x0000]] } ∧
      memWrite halfHl.hl 0x00 { halfHl with ext := [[.read 0x0000]] } =
        .fault (.unmappedAddress 0x0000 .read) { halfHl with ext := [] } :=
  ⟨⟨read_ok, write_ok⟩, read_fault, rfl, rfl⟩
theorem witness_IncAndDecOfBytes :
    (Instr.incA.shape = .incReg .a ∧ Instr.incIndHl.shape = .incHl ∧ Instr.decB.shape = .decReg .b ∧
      Instr.decIndHl.shape = .decHl) ∧
    memRead start.hl start = .ok 0x00 start ∧ memWrite start.hl (0x00 + 1) start =
      .ok () (place [(0x014D, 0x01)] start) ∧
      memRead hole.hl hole = .fault (.unmappedAddress 0x014D .read) hole :=
  ⟨⟨rfl, rfl, rfl, rfl⟩, read_ok, rfl, read_fault⟩
theorem witness_DaaCplScfCcf :
    Instr.daa.shape = .daa ∧ Instr.cpl.shape = .cpl ∧ Instr.scf.shape = .scf ∧ Instr.ccf.shape = .ccf := by decide
theorem witness_AddHlAndPairSteps :
    (Instr.addHlSp.shape = .addHl .sp ∧ Instr.incSp.shape = .incPair .sp ∧ Instr.decBc.shape = .decPair .bc) ∧
    internals 1 start = .ok () start ∧
      internals 1 callbackFaults = .fault (.unmappedAddress 0x0000 .read) { hole with ext := [] } :=
  ⟨⟨rfl, rfl, rfl⟩, waits_ok.1, waits_fault.1⟩
theorem witness_SignedStackAdds :
    ((Instr.addSpE 0x80).shape = .addSp 0x80 ∧ (Instr.ldHlSpE 0xFF).shape = .ldHlSp 0xFF) ∧
    start.cfg.ldhlSpeInternal = .one ∧
      ({ start with cfg := { Config.default with ldhlSpeInternal := .two } } : State).cfg.ldhlSpeInternal = .two ∧
      internals 1 start = .ok () start ∧ internals 2 start = .ok () start ∧
      internals 1 callbackFaults = .fault (.unmappedAddress 0x0000 .read) { hole with ext := [] } ∧
      internals 2 callbackFaults = .fault (.unmappedAddress 0x0000 .read) { hole with ext := [] } :=
  ⟨⟨rfl, rfl⟩, rfl, rfl, waits_ok.1, waits_ok.2, waits_fault.1, waits_fault.2⟩
theorem witness_AccumulatorRotates :
    Instr.rlca.shape = .rotAcc .rlc ∧ Instr.rrca.shape = .rotAcc .rrc ∧ Instr.rla.shape = .rotAcc .rl ∧
      Instr.rra.shape = .rotAcc .rr := by decide
theorem witness_CbRotatesAndShifts :
    (Instr.rlcB.shape = .rotReg .rlc .b ∧ Instr.srlA.shape = .rotReg .srl .a ∧ Instr.swapIndHl.shape = .rotHl .swap) ∧
    memRead start.hl start = .ok 0x00 start ∧ memWrite start.hl (rotated .swap 0x00 false) start = .ok () start ∧
      memRead hole.hl hole = .fault (.unmappedAddress 0x014D .read) hole :=
  ⟨⟨rfl, rfl, rfl⟩, read_ok, rfl, read_fault⟩
theorem witness_BitTests :
    (Instr.bit0B.shape = .bitReg 0 .b ∧ Instr.bit7A.shape = .bitReg 7 .a ∧ Instr.bit7IndHl.shape = .bitHl 7) ∧
    memRead start.hl start = .ok 0x00 start ∧
      memRead hole.hl hole = .fault (.unmappedAddress 0x014D .read) hole :=
  ⟨⟨rfl, rfl, rfl⟩, read_ok, read_fault⟩
theorem witness_ResAndSet :
    (Instr.res0B.shape = .resReg 0 .b ∧ Instr.set7A.shape = .setReg 7 .a ∧ Instr.res7IndHl.shape = .resHl 7 ∧
      Instr.set0IndHl.shape = .setHl 0) ∧
    memRead start.hl start = .ok 0x00 start ∧ memWrite start.hl 0x00 start = .ok () start ∧
      memRead hole.hl hole = .fault (.unmappedAddress 0x014D .read) hole :=
  ⟨⟨rfl, rfl, rfl, rfl⟩, read_ok, write_ok, read_fault⟩

theorem witness_AbsoluteJumps :
    ((Instr.jpNn 0xFFFF).shape = .jp 0xFFFF ∧ (Instr.jpNzNn 0x0000).shape = .jpIf .nz 0x0000 ∧
      (Instr.jpCNn 0x1234).shape = .jpIf .c 0x1234 ∧ Instr.jpHl.shape = .jpHl) ∧
    cond .nz start.flags = true ∧ cond .c start.flags = false ∧ internals 1 start = .ok () start ∧
      internals 1 callbackFaults = .fault (.unmappedAddress 0x0000 .read) { hole with ext := [] } :=
  ⟨⟨rfl, rfl, rfl, rfl⟩, rfl, rfl, waits_ok.1, waits_fault.1⟩
theorem witness_RelativeJumps :
    ((Instr.jrE 0x80).shape = .jr 0x80 ∧ (Instr.jrNcE 0x7F).shape = .jrIf .nc 0x7F ∧
      (Instr.jrZE 0xFE).shape = .jrIf .z 0xFE) ∧
    cond .nc start.flags = true ∧ cond .z start.flags = false ∧ internals 1 start = .ok () start ∧
      internals 1 callbackFaults = .fault (.unmappedAddress 0x0000 .read) { hole with ext := [] } :=
  ⟨⟨rfl, rfl, rfl⟩, rfl, rfl, waits_ok.1, waits_fault.1⟩
/-- A push in all its outcomes: both bytes stored, the second refused by the platform, the first refused, and a fault
in the internal cycle before it. -/
theorem push_outcomes :
    (internal start = .ok () start ∧
      memWrite (start.sp - 1) 0xC0 { start with sp := start.sp - 1 } =
        .ok () (place [(0xCFFF, 0xC0)] { start with sp := 0xCFFF }) ∧
      memWrite (start.sp - 2) 0x03 (place [(0xCFFF, 0xC0)] { start with sp := start.sp - 2 }) =
        .ok () (place [(0xCFFE, 0x03), (0xCFFF, 0xC0)] { start with sp := 0xCFFE })) ∧
    (internal halfStack = .ok () halfStack ∧
      memWrite (halfStack.sp - 1) 0xC0 { halfStack with sp := halfStack.sp - 1 } =
        .ok () (place [(0xCFFF, 0xC0)] { halfStack with sp := 0xCFFF }) ∧
      memWrite (halfStack.sp - 2) 0x03 (place [(0xCFFF, 0xC0)] { halfStack with sp := halfStack.sp - 2 }) =
        .fault (.unmappedAddress 0xCFFE .write) (place [(0xCFFF, 0xC0)] { halfStack with sp := 0xCFFE })) ∧
    (internal hole = .ok () hole ∧
      memWrite (hole.sp - 1) 0xC0 { hole with sp := hole.sp - 1 } =
        .fault (.unmappedAddress 0xCFFF .write) { hole with sp := 0xCFFF }) ∧
    internal callbackFaults = .fault (.unmappedAddress 0x0000 .read) { hole with ext := [] } :=
  ⟨⟨rfl, rfl, rfl⟩, ⟨rfl, rfl, rfl⟩, ⟨rfl, rfl⟩, rfl⟩
theorem witness_CallsAndRestarts :
    ((Instr.callNn 0xC800).shape = .call 0xC800 ∧ (Instr.callNzNn 0xFFFF).shape = .callIf .nz 0xFFFF ∧
      (Instr.callCNn 0x0000).shape = .callIf .c 0x0000 ∧ Instr.rst00.shape = .rst 0 ∧ Instr.rst38.shape = .rst 7) ∧
    cond .nz start.flags = true ∧ cond .c start.flags = false ∧
      ∃ t u, internal start = .ok () t ∧
        memWrite (start.sp - 1) (hiByte start.pc) { t with sp := start.sp - 1 } = .ok () u :=
  ⟨⟨rfl, rfl, rfl, rfl, rfl⟩, rfl, rfl, _, _, wait_ok, rfl⟩
/-- A pop in its outcomes. -/
theorem pop_outcomes :
    (memRead start.sp start = .ok 0x00 start ∧
      memRead (start.sp + 1) { start with sp := start.sp + 1 } = .ok 0x00 { start with sp := 0xD001 }) ∧
    (memRead halfPop.sp halfPop = .ok 0x00 halfPop ∧
      memRead (halfPop.sp + 1) { halfPop with sp := halfPop.sp + 1 } =
        .fault (.unmappedAddress 0xD001 .read) { halfPop with sp := 0xD001 }) ∧
    memRead hole.sp hole = .fault (.unmappedAddress 0xD000 .read) hole := ⟨⟨rfl, rfl⟩, ⟨rfl, rfl⟩, rfl⟩
theorem witness_Returns :
    (Instr.ret.shape = .ret ∧ Instr.retNz.shape = .retIf .nz ∧ Instr.retC.shape = .retIf .c ∧ Instr.reti.shape = .reti) ∧
    cond .nz start.flags = true ∧ cond .c start.flags = false ∧ internal start = .ok () start ∧
      memRead start.sp start = .ok 0x00 start ∧
      memRead (start.sp + 1) { start with sp := start.sp + 1 } = .ok 0x00 { start with sp := 0xD001 } ∧
      internals 1 start = .ok () start ∧
      internal callbackFaults = .fault (.unmappedAddress 0x0000 .read) { hole with ext := [] } ∧
      memRead hole.sp hole = .fault (.unmappedAddress 0xD000 .read) hole :=
  ⟨⟨rfl, rfl, rfl, rfl⟩, rfl, rfl, wait_ok, pop_outcomes.1.1, pop_outcomes.1.2, waits_ok.1, wait_fault,
    pop_outcomes.2.2⟩
theorem witness_PushAndPop :
    (Instr.pushAf.shape = .push .af ∧ Instr.pushBc.shape = .push .bc ∧ Instr.popAf.shape = .pop .af ∧
      Instr.popHl.shape = .pop .hl) ∧
    (∃ t u, internal start = .ok () t ∧
      memWrite (start.sp - 1) (hiByte start.af) { t with sp := start.sp - 1 } = .ok () u) ∧
      memRead start.sp start = .ok 0x00 start ∧
      memRead (start.sp + 1) { start with sp := start.sp + 1 } = .ok 0x00 { start with sp := 0xD001 } ∧
      memRead hole.sp hole = .fault (.unmappedAddress 0xD000 .read) hole :=
  ⟨⟨rfl, rfl, rfl, rfl⟩, ⟨_, _, wait_ok, rfl⟩, pop_outcomes.1.1, pop_outcomes.1.2, pop_outcomes.2.2⟩
theorem witness_StackPointerLoads :
    (Instr.ldSpHl.shape = .ldSpHl ∧ (Instr.ldIndNnSp 0xFFFF).shape = .ldNnSp 0xFFFF ∧
      (Instr.ldSpNn 0xFFFE).shape = .ldPair .sp 0xFFFE) ∧
    internals 1 start = .ok () start ∧
      memWrite 0xFFFF (loByte start.sp) start = .ok () start ∧ memWrite (0xFFFF + 1) (hiByte start.sp) start =
        .ok () (place [(0x0000, 0xD0)] start) ∧
      memWrite 0xFFFF (loByte hole.sp) hole = .ok () hole ∧ memWrite (0xFFFF + 1) (hiByte hole.sp) hole =
        .fault (.unmappedAddress 0x0000 .write) hole ∧
      memWrite 0xC800 (loByte hole.sp) hole = .fault (.unmappedAddress 0xC800 .write) hole :=
  ⟨⟨rfl, rfl, rfl⟩, waits_ok.1, rfl, rfl, rfl, rfl, rfl⟩
theorem witness_RegisterLoads :
    (Instr.ldAA.shape = .ldReg .a .a ∧ (Instr.ldBN 0xFF).shape = .ldRegImm .b 0xFF ∧
      Instr.ldLIndHl.shape = .ldRegHl .l) ∧
    memRead start.hl start = .ok 0x00 start ∧
      memRead hole.hl hole = .fault (.unmappedAddress 0x014D .read) hole := ⟨⟨rfl, rfl, rfl⟩, read_ok, read_fault⟩
theorem witness_IndirectLoadsAndStores :
    (Instr.ldIndHlH.shape = .ldHlReg .h ∧ (Instr.ldIndHlN 0xFF).shape = .ldHlImm 0xFF ∧ Instr.ldAIndBc.shape = .ldABc ∧
      Instr.ldAIndDe.shape = .ldADe ∧ Instr.ldIndBcA.shape = .ldBcA ∧ Instr.ldIndDeA.shape = .ldDeA) ∧
    memRead start.bc start = .ok 0x00 start ∧ memRead start.de start = .ok 0x00 start ∧
      memWrite start.hl start.h start = .ok () (place [(0x014D, 0x01)] start) ∧
      memRead hole.bc hole = .fault (.unmappedAddress 0x0013 .read) hole ∧
      memWrite hole.hl hole.h hole = .fault (.unmappedAddress 0x014D .write) hole :=
  ⟨⟨rfl, rfl, rfl, rfl, rfl, rfl⟩, rfl, rfl, rfl, rfl, rfl⟩
theorem witness_SteppingLoadsAndStores :
    (Instr.ldAIndHlInc.shape = .ldAHlInc ∧ Instr.ldAIndHlDec.shape = .ldAHlDec ∧ Instr.ldIndHlIncA.shape = .ldHlIncA ∧
      Instr.ldIndHlDecA.shape = .ldHlDecA) ∧
    memRead start.hl start = .ok 0x00 start ∧
      memWrite start.hl start.a start = .ok () (place [(0x014D, 0x01)] start) ∧
      memRead hole.hl hole = .fault (.unmappedAddress 0x014D .read) hole ∧
      memWrite hole.hl hole.a hole = .fault (.unmappedAddress 0x014D .write) hole :=
  ⟨⟨rfl, rfl, rfl, rfl⟩, read_ok, rfl, read_fault, rfl⟩
theorem witness_AbsoluteAndHighPageLoads :
    ((Instr.ldAIndNn 0xFFFF).shape = .ldANn 0xFFFF ∧ (Instr.ldIndNnA 0x0000).shape = .ldNnA 0x0000 ∧
      (Instr.ldhAIndN 0x0F).shape = .ldhAN 0x0F ∧ (Instr.ldhIndNA 0x46).shape = .ldhNA 0x46 ∧
      Instr.ldhAIndC.shape = .ldhAC ∧ Instr.ldhIndCA.shape = .ldhCA) ∧
    memRead 0xFFFF start = .ok 0x00 start ∧ memRead (0xFF#8 ++ 0x0F#8) start = .ok 0xE0 start ∧
      memWrite 0x0000 start.a start = .ok () (place [(0x0000, 0x01)] start) ∧
      memWrite (0xFF#8 ++ 0x46#8) start.a start = .ok () { start with dmaReg := 0x01, dmaDelay := 3 } ∧
      memRead 0x0000 hole = .fault (.unmappedAddress 0x0000 .read) hole ∧
      memWrite 0x0000 hole.a hole = .fault (.unmappedAddress 0x0000 .write) hole :=
  ⟨⟨rfl, rfl, rfl, rfl, rfl, rfl⟩, rfl, rfl, rfl, rfl, rfl, rfl⟩

theorem witness_HaltEntersItsState :
    Instr.halt.shape = .halt ∧ ({ start with ime := true } : State).ime = true ∧
      (start.ime = false ∧ start.ie.setWidth 5 &&& start.if5 = 0) ∧
      ({ start with ie := 0x01, if5 := 0x01 } : State).ime = false ∧
      ({ start with ie := 0x01, if5 := 0x01 } : State).ie.setWidth 5 &&&
        ({ start with ie := 0x01, if5 := 0x01 } : State).if5 ≠ 0 := by decide
theorem witness_NopDiEiStop :
    Instr.nop.shape = .nop ∧ Instr.di.shape = .di ∧ Instr.ei.shape = .ei ∧ Instr.stop.shape = .stop ∧
      start.ime = false ∧ ({ start with ime := true } : State).ime = true := by decide
theorem witness_CbPrefixRunsTheCbRow :
    fetchByte (place [(0xC000, 0xFF)] start) = .ok 0xFF (place [(0xC000, 0xFF)] { start with pc := 0xC001 }) ∧
      fetchByte hole = .fault (.unmappedAddress 0xC000 .read) hole ∧
      ∃ t, fetchInstr false start = .ok .nop t := ⟨rfl, rfl, _, rfl⟩
theorem witness_IllegalOpcodesStop :
    Instr.illegalD3.shape = .illegal 0xD3 ∧ Instr.illegalFD.shape = .illegal 0xFD ∧
      ∃ t, fetchInstr false (place [(0xC000, 0xFD)] start) = .ok .illegalFD t := ⟨rfl, rfl, _, rfl⟩

theorem witness_RouterAccess :
    (deviceMap hole.cfg 0x0000 = none ∧ cpuMayAccess 0x0000 hole = true) ∧ deviceMap start.cfg 0xFFFF = some .cpu ∧
      (deviceMap start.cfg 0xFFFE = some .ram ∧ Memory.wf start.mem = true) ∧
      deviceMap { Config.default with devices := [⟨.peripheral, [⟨0xFF40, 0xFF45⟩]⟩] } 0xFF45 = some .peripheral := by
  decide
theorem witness_IeAndDmaRegisters : deviceMap start.cfg 0xFF46 = some .cpu := by decide
theorem witness_InterruptFlagRegister :
    let s : State := { start with cfg := { Config.default with callback := ⟨[], .loop [[.request 4]]⟩ } }
    s.ext = [] ∧ s.cfg.callback.after = .loop [[.request (4 : Fin 5)]] ∧ dmaStep s = .ok () s := ⟨rfl, rfl, rfl⟩
theorem witness_ReadAfterWrite :
    Quiet start ∧ Memory.wf start.mem = true ∧ deviceMap start.cfg 0xFFFE = some .ram ∧
      (0x0000 : Word) ≠ 0xFFFE ∧ deviceMap start.cfg 0x0000 = some .ram := ⟨start_quiet, by decide⟩
theorem witness_DmaPolicyBlocksTheCpu :
    copying.dmaActive = true ∧ (0xFF7F : Word) ≠ 0xFF46 ∧ inRanges copying.cfg.dmaReachable 0xFF7F = false ∧
      (∃ t, cycle (drawn copying) = .ok () t) ∧
      (Config.dmaConflictWriteTaken copying.draws = false ∨ Config.dmaConflictWriteTaken copying.draws = true) :=
  ⟨rfl, by decide, by decide, ⟨_, rfl⟩, by cases Config.dmaConflictWriteTaken copying.draws <;> simp⟩
theorem witness_CyclesLeaveTheCpuAlone :
    (∃ t, internal copying = .ok () t) ∧ (∃ v t, memRead 0xFF80 copying = .ok v t) ∧
      ∃ t, memWrite 0xFF80 0x12 copying = .ok () t := ⟨⟨_, rfl⟩, ⟨_, _, rfl⟩, _, rfl⟩

theorem witness_DmaTransferCopiesAPage :
    Quiet start ∧ Memory.wf start.mem = true ∧
      (∀ k : Nat, k < 160 → deviceMap start.cfg ((0xDE#8 ++ 0#8 : Word) + BitVec.ofNat 16 k) = some .ram ∧
        deviceMap start.cfg (0xFE00 + BitVec.ofNat 16 k) = some .ram) ∧
      routerWrite 0xFF46 0xDE start = .ok () { start with dmaReg := 0xDE, dmaDelay := 4 } ∧ 0 ≤ 164 ∧ 164 ≤ 164 :=
  ⟨start_quiet, by decide, fun k hk => by
    have e1 : ((0xDE#8 ++ 0#8 : Word) + BitVec.ofNat 16 k).toNat = 0xDE00 + k := by simp; omega
    have e2 : ((0xFE00 : Word) + BitVec.ofNat 16 k).toNat = 0xFE00 + k := by simp; omega
    exact ⟨default_ram _ (by omega) (by omega) (by omega), default_ram _ (by omega) (by omega) (by omega)⟩,
    rfl, by decide, by decide⟩
theorem witness_PopUndoesPush :
    Quiet start ∧ Memory.wf start.mem = true ∧ deviceMap start.cfg (start.sp - 1) = some .ram ∧
      deviceMap start.cfg (start.sp - 2) = some .ram := ⟨start_quiet, by decide⟩

theorem witness_StepRunsDecodedInstruction :
    (start.fault = none ∧ dispatchable start = false ∧ start.runState = .normal) ∧
      (∃ t, fetchInstr false start = .ok .nop t) ∧
      fetchInstr false hole = .fault (.unmappedAddress 0xC000 .read) { hole with opPc := 0xC000 } ∧
      (Quiet start ∧ decode [ramByte start.pc start, ramByte (start.pc + 1) start, ramByte (start.pc + 2) start] =
        .ok (.nop, [0x00, 0x00]) ∧ Instr.nop.fetchedBytes = 1 ∧ deviceMap start.cfg start.pc = some .ram) :=
  ⟨by decide, ⟨_, rfl⟩, rfl, start_quiet, rfl, rfl, by decide⟩
theorem witness_HaltBugRepeatsAByte :
    let s : State := { start with runState := .haltedBug }
    (s.fault = none ∧ dispatchable s = false ∧ s.runState = .haltedBug) ∧ Quiet s ∧
      decode [ramByte s.pc s, ramByte s.pc s, ramByte (s.pc + 1) s] = .ok (.nop, [0x00, 0x00]) ∧
      max 1 (Instr.nop.fetchedBytes - 1) = 1 ∧ deviceMap s.cfg s.pc = some .ram :=
  ⟨by decide, ⟨rfl, rfl, rfl, rfl⟩, rfl, rfl, by decide⟩
theorem witness_DispatchChecks :
    ({ start with fault := some (.illegalOpcode 0xD3 0xC000) } : State).fault ≠ none ∧
      (start.fault = none ∧ ({ start with ime := true, ie := 0x10, if5 := 0x10 } : State).ime = true ∧
        ({ start with ime := true, ie := 0x10, if5 := 0x10 } : State).ie.setWidth 5 &&&
          ({ start with ime := true, ie := 0x10, if5 := 0x10 } : State).if5 ≠ 0) := by decide
theorem witness_DispatchTakesTheLowestRequest :
    let s : State := { start with ie := 0x1F, if5 := 0x18 }
    (s.ie.setWidth 5 &&& s.if5).getLsbD (3 : Fin 5) = true ∧
      (∀ j : Fin 5, j < 3 → (s.ie.setWidth 5 &&& s.if5).getLsbD j = false) ∧ (∃ t, dispatch s = .ok () t) ∧
      Quiet s ∧ deviceMap s.cfg (s.sp - 1) = some .ram ∧ deviceMap s.cfg (s.sp - 2) = some .ram :=
  ⟨by decide, by decide, ⟨_, rfl⟩, ⟨rfl, rfl, rfl, rfl⟩, by decide, by decide⟩
theorem witness_WaitingTicks :
    (start.fault = none ∧ dispatchable start = false) ∧
      (pending { start with runState := .halted, ie := 0x10, if5 := 0x10 } = true ∧
        dispatchable { start with runState := .halted, ie := 0x10, if5 := 0x10 } = false) ∧
      (pending { start with runState := .stopped, ie := 0x01, if5 := 0x01 } = true ∧
        start.cfg.stopWake = .pending) ∧
      pending { start with runState := .halted } = false ∧
      ({ Config.default with stopWake := .never } : Config).stopWake = .never ∧ Quiet start :=
  ⟨by decide, by decide, by decide, by decide, rfl, start_quiet⟩
theorem witness_EiTakesEffectOneInstructionLate :
    let s := place [(0xC000, 0xFB)] start
    (s.fault = none ∧ s.runState = .normal ∧ s.ime = false ∧ s.imePending = false) ∧
      ∃ t, fetchInstr false s = .ok .ei t ∧ ∃ i u, fetchInstr false { t with imePending := true } = .ok i u :=
  ⟨by decide, _, rfl, _, _, rfl⟩

theorem witness_RegisterAndFlagFrame :
    Instr.ldBC.wellFormed = true ∧ exec .ldBC start = .next { start with b := 0x13 } ∧
      Instr.ldBC.shape.writesReg .c = false ∧ Instr.ldBC.shape.writesFlags = false := ⟨rfl, rfl, rfl, rfl⟩
theorem witness_ControlStateFrame :
    Instr.reti.wellFormed = true ∧ ∃ t, exec .reti start = .next t := ⟨rfl, _, rfl⟩
theorem witness_MemoryFrame :
    Instr.pushBc.wellFormed = true ∧ Quiet start ∧ (∃ t, exec .pushBc start = .next t) ∧
      (0xD000 : Word) ∉ Instr.pushBc.shape.storeAddrs start ∧ deviceMap start.cfg 0xD000 ≠ some .peripheral ∧
      (0xFF46 : Word) ∉ Instr.pushBc.shape.storeAddrs start :=
  ⟨rfl, start_quiet, ⟨_, rfl⟩, by decide, by decide, by decide⟩
theorem witness_MachineCycles :
    (∃ t, fetchInstr false start = .ok .nop t) ∧ (∃ t, fetchInstr true start = .ok .nop t) ∧
      (Instr.callNn 0x1234).wellFormed = true ∧ ∃ t, exec (.callNn 0x1234) start = .next t :=
  ⟨⟨_, rfl⟩, ⟨_, rfl⟩, rfl, _, rfl⟩

theorem witness_EveryInstructionCompletes :
    Instr.cbPrefix.legal = true ∧ Instr.set7A.legal = true ∧ FullyMapped start.cfg := ⟨rfl, rfl, default_fullyMapped⟩
theorem witness_OnlyIllegalOpcodesStop : start.fault = none ∧ FullyMapped start.cfg := ⟨rfl, default_fullyMapped⟩
theorem witness_DeviceMapIsConstant :
    construct Config.default = .next State.reset ∧ ∃ t, step start = .next t := ⟨rfl, _, rfl⟩
theorem witness_StepKeepsInvariant :
    (place [(0x0000, 0x12), (0xFFFE, 0x34)] copying).Inv ∧ ∃ t, step start = .next t :=
  ⟨⟨by decide, by decide, by decide, by decide, rfl⟩, _, rfl⟩

end Sys2Proof.Tests
end

section
/-! The pair views (R31): the read-back of AF, and the statement of 10_state.md about the four pairs. -/

namespace Sys2Proof.Machine

/-- Masking a word with `0xFFF0` keeps its high byte and masks its low byte as a write of F does (R33). -/
theorem and_FFF0_eq_append (v : Word) : v &&& 0xFFF0 = hiByte v ++ (loByte v &&& 0xF0) := by
  calc v &&& 0xFFF0
      = (hiByte v ++ loByte v) &&& (BitVec.allOnes 8 ++ (0xF0 : Byte)) := by rw [hiByte_loByte]; rfl
    _ = hiByte v ++ (loByte v &&& 0xF0) := by rw [BitVec.and_append, BitVec.and_allOnes]

@[simp] theorem setAf_af (v : Word) (s : State) : (s.setAf v).af = v &&& 0xFFF0 := by
  rw [State.af, setAf_a, setAf_flags, toByte_ofByte, and_FFF0_eq_append]

/-- Settles O7: each pair is its registers by definition, and the round trips are the pairs' read-back laws. -/
theorem pairViewsRoundTrip : Obligations.PairViewsRoundTrip := by
  intro s v
  have writeB (b : Byte) : (s.setReg .b b).bc = b ++ s.c := rfl
  have readB : (s.setBc v).reg .b = v.extractLsb' 8 8 := setBc_b v s
  have readC : (s.setBc v).reg .c = v.extractLsb' 0 8 := setBc_c v s
  exact ⟨rfl, rfl, rfl, rfl, setBc_bc v s, setDe_de v s, setHl_hl v s, setAf_af v s, writeB, readB, readC⟩

end Sys2Proof.Machine
end

section
/-! What a whole step keeps, said once for every property of states that the bus and the CPU's own part of the state
cannot break: the operations that change the CPU, every instruction, and the tick. -/

namespace Sys2Proof.Machine

/-- `P` is kept by everything a step is made of: by a whole machine cycle, by a change of the CPU's own part of the
state, and by taking an interrupt. -/
structure StepClosed (P : State → Prop) : Prop extends CycleClosed P where
  cpu : ∀ s c, P s → P (s.withCpu c)
  accept : ∀ i s, P s → P (acceptInterrupt i s)

/-- The next state of an outcome, where it has one, has `P`. -/
def NextHas (P : State → Prop) (o : Out) : Prop := ∀ t, o = .next t → P t

variable {P : State → Prop} {s t : State}

theorem NextHas.next (h : P s) : NextHas P (.next s) := fun _ e => by cases e; exact h

theorem nextHas_raise (k : FaultKind) (s : State) : NextHas P (raise k s) := fun _ e => nomatch e

theorem Res.All.out {r : Res Unit} (h : r.All P) : NextHas P r.out := fun _ e => h.of_ok (out_eq_next.mp e)

theorem Res.All.bind_out {α : Type} {r : Res α} {f : α → State → Res Unit} (h : r.All P)
    (hf : ∀ v s1, P s1 → (f v s1).All P) : NextHas P (r.bind f).out :=
  Res.All.out (Res.All.bind h fun v s1 _ h1 => hf v s1 h1)

/-- A well-formed instruction is not the CB byte by itself (R370). -/
theorem shape_ne_cbPrefix {i : Instr} (h : i.wellFormed = true) : i.shape ≠ .cbPrefix := by
  simpa [Instr.wellFormed] using h

/-- A fetch reads a whole instruction. -/
theorem fetchInstr_wellFormed {bug : Bool} {i : Instr} (h : fetchInstr bug s = .ok i t) : i.wellFormed = true := by
  obtain ⟨_, _, _, h2⟩ := bind_eq_ok.mp h
  exact (fetchOperands_spec h2).1

namespace StepClosed

/-! ### Changes of the CPU -/

/-- `P` is kept where only the CPU's own part of the state changes. -/
theorem of_cpu (hP : StepClosed P) (h : P s) (e : t = s.withCpu t) : P t := by
  rw [e]
  exact hP.cpu s t h

theorem next (hP : StepClosed P) (h : P s) (e : t = s.withCpu t) : NextHas P (.next t) := .next (hP.of_cpu h e)

theorem setReg (hP : StepClosed P) (h : P s) (r : Reg8) (v : Byte) : P (s.setReg r v) :=
  hP.of_cpu h (by cases r <;> rfl)

theorem setPair (hP : StepClosed P) (h : P s) (p : RegDd) (v : Word) : P (s.setPair p v) :=
  hP.of_cpu h (by cases p <;> rfl)

theorem setStackPair (hP : StepClosed P) (h : P s) (q : RegQq) (v : Word) : P (s.setStackPair q v) :=
  hP.of_cpu h (by cases q <;> rfl)

/-! ### Fetches, the stack and the dispatch -/

theorem fetchByte (hP : StepClosed P) (h : P s) : (fetchByte s).All P :=
  Res.All.bind (hP.memRead s.pc h) fun _ _ _ h1 => hP.of_cpu h1 rfl

theorem fetchWord (hP : StepClosed P) (h : P s) : (fetchWord s).All P :=
  Res.All.bind (hP.fetchByte h) fun _ _ _ h1 => Res.All.bind (hP.fetchByte h1) fun _ _ _ h2 => h2

theorem fetchOpcode (hP : StepClosed P) (bug : Bool) (h : P s) : (fetchOpcode bug s).All P := by
  cases bug with
  | false => exact hP.fetchByte h
  | true => exact hP.memRead _ h

theorem fetchOperands (hP : StepClosed P) (entry : OpEntry) (h : P s) : (fetchOperands entry s).All P := by
  cases entry with
  | op i => exact h
  | opN f => exact Res.All.bind (hP.fetchByte h) fun _ _ _ h1 => h1
  | opE f => exact Res.All.bind (hP.fetchByte h) fun _ _ _ h1 => h1
  | opNn f => exact Res.All.bind (hP.fetchWord h) fun _ _ _ h1 => h1
  | cb => exact Res.All.bind (hP.fetchByte h) fun _ _ _ h1 => h1
  | stop => exact h

theorem fetchInstr (hP : StepClosed P) (bug : Bool) (h : P s) : (fetchInstr bug s).All P :=
  Res.All.bind (hP.fetchOpcode bug (hP.of_cpu h rfl)) fun _ _ _ h1 =>
    hP.fetchOperands _ (hP.of_cpu h1 (by cases bug <;> rfl))

theorem push16 (hP : StepClosed P) (v : Word) (h : P s) : (push16 v s).All P :=
  Res.All.bind (hP.memWrite _ _ (hP.of_cpu h rfl)) fun _ _ _ h1 => hP.memWrite _ _ (hP.of_cpu h1 rfl)

theorem pop16 (hP : StepClosed P) (h : P s) : (pop16 s).All P :=
  Res.All.bind (hP.memRead _ h) fun _ _ _ h1 =>
    Res.All.bind (hP.memRead _ (hP.of_cpu h1 rfl)) fun _ _ _ h2 => hP.of_cpu h2 rfl

theorem returnTo (hP : StepClosed P) (h : P s) : (returnTo s).All P :=
  Res.All.bind (hP.pop16 h) fun _ _ _ h1 => Res.All.bind (hP.internal h1) fun _ _ _ h2 => hP.of_cpu h2 rfl

theorem dispatch (hP : StepClosed P) (h : P s) : (dispatch s).All P :=
  Res.All.bind (hP.internal (hP.accept _ _ h)) fun _ _ _ h1 =>
    Res.All.bind (hP.internal h1) fun _ _ _ h2 =>
      Res.All.bind (hP.push16 _ h2) fun _ _ _ h3 =>
        Res.All.bind (hP.internal h3) fun _ _ _ h4 => hP.of_cpu h4 rfl

/-! ### The meanings that many instructions share -/

theorem modifyHl (hP : StepClosed P) (f : Byte → Flags → Byte × Flags) (h : P s) : NextHas P (modifyHl f s) :=
  Res.All.bind_out (hP.memRead _ h) fun _ _ h1 =>
    Res.All.bind (hP.memWrite _ _ h1) fun _ _ _ h2 => hP.of_cpu h2 rfl

theorem jumpTo (hP : StepClosed P) (target : Word) (h : P s) : NextHas P (jumpTo target s) :=
  Res.All.bind_out (hP.internal h) fun _ _ h1 => hP.of_cpu h1 rfl

theorem callTo (hP : StepClosed P) (target : Word) (h : P s) : NextHas P (callTo target s) :=
  Res.All.bind_out (hP.internal h) fun _ _ h1 =>
    Res.All.bind (hP.push16 _ h1) fun _ _ _ h2 => hP.of_cpu h2 rfl

theorem loadA (hP : StepClosed P) (a : Word) (h : P s) : NextHas P (loadA a s) :=
  Res.All.bind_out (hP.memRead a h) fun _ _ h1 => hP.of_cpu h1 rfl

theorem storeByte (hP : StepClosed P) (a : Word) (v : Byte) (h : P s) : NextHas P (storeByte a v s) :=
  Res.All.out <| hP.memWrite a v h

theorem loadAThenHl (hP : StepClosed P) (w : Word) (h : P s) : NextHas P (loadAThenHl w s) :=
  Res.All.bind_out (hP.memRead _ h) fun _ _ h1 => hP.of_cpu h1 rfl

theorem storeAThenHl (hP : StepClosed P) (w : Word) (h : P s) : NextHas P (storeAThenHl w s) :=
  Res.All.bind_out (hP.memWrite _ _ h) fun _ _ h1 => hP.of_cpu h1 rfl

/-- A meaning on the path the flags select, and none on the other path. -/
theorem ite_next {c : Prop} [Decidable c] {o : Out} (ho : NextHas P o) (h : P s) :
    NextHas P (if c then o else .next s) := by
  split
  · exact ho
  · exact .next h

/-! ### Every instruction, and the tick -/

/-- Every meaning keeps `P`; `cbPrefix` is left out, which no fetch gives (R370). -/
theorem execShape (hP : StepClosed P) {sh : Shape} (hsh : sh ≠ .cbPrefix) (h : P s) :
    NextHas P (execShape sh s) := by
  cases sh with
  | aluReg op r => exact hP.next h rfl
  | aluHl op => exact Res.All.bind_out (hP.memRead _ h) fun _ _ h1 => hP.of_cpu h1 rfl
  | aluImm op n => exact hP.next h rfl
  | incReg r => exact hP.next (hP.setReg h r _) rfl
  | incHl => exact hP.modifyHl _ h
  | decReg r => exact hP.next (hP.setReg h r _) rfl
  | decHl => exact hP.modifyHl _ h
  | daa => exact hP.next h rfl
  | cpl => exact hP.next h rfl
  | scf => exact hP.next h rfl
  | ccf => exact hP.next h rfl
  | addHl p => exact Res.All.bind_out (hP.internal h) fun _ _ h1 => hP.of_cpu h1 rfl
  | incPair p => exact Res.All.bind_out (hP.internal h) fun _ _ h1 => hP.setPair h1 p _
  | decPair p => exact Res.All.bind_out (hP.internal h) fun _ _ h1 => hP.setPair h1 p _
  | addSp e => exact Res.All.bind_out (hP.internals 2 h) fun _ _ h1 => hP.of_cpu h1 rfl
  | ldHlSp e => exact Res.All.bind_out (hP.internals _ h) fun _ _ h1 => hP.of_cpu h1 rfl
  | rotAcc op => exact hP.next h rfl
  | rotReg op r => exact hP.next (hP.setReg h r _) rfl
  | rotHl op => exact hP.modifyHl _ h
  | bitReg b r => exact hP.next h rfl
  | bitHl b => exact Res.All.bind_out (hP.memRead _ h) fun _ _ h1 => hP.of_cpu h1 rfl
  | resReg b r => exact .next (hP.setReg h r _)
  | resHl b => exact hP.modifyHl _ h
  | setReg b r => exact .next (hP.setReg h r _)
  | setHl b => exact hP.modifyHl _ h
  | jp nn => exact hP.jumpTo nn h
  | jpIf cc nn => exact ite_next (hP.jumpTo nn h) h
  | jpHl => exact hP.next h rfl
  | jr e => exact hP.jumpTo _ h
  | jrIf cc e => exact ite_next (hP.jumpTo _ h) h
  | call nn => exact hP.callTo nn h
  | callIf cc nn => exact ite_next (hP.callTo nn h) h
  | ret => exact Res.All.out (hP.returnTo h)
  | retIf cc =>
    refine Res.All.bind_out (hP.internal h) fun _ _ h1 => ?_
    split
    · exact hP.returnTo h1
    · exact h1
  | reti => exact Res.All.bind_out (hP.returnTo h) fun _ _ h1 => hP.of_cpu h1 rfl
  | rst n => exact hP.callTo _ h
  | push q => exact Res.All.bind_out (hP.internal h) fun _ _ h1 => hP.push16 _ h1
  | pop q => exact Res.All.bind_out (hP.pop16 h) fun _ _ h1 => hP.setStackPair h1 q _
  | ldSpHl => exact Res.All.bind_out (hP.internal h) fun _ _ h1 => hP.of_cpu h1 rfl
  | ldNnSp nn => exact Res.All.bind_out (hP.memWrite _ _ h) fun _ _ h1 => hP.memWrite _ _ h1
  | ldPair p nn => exact .next (hP.setPair h p nn)
  | ldReg r r' => exact .next (hP.setReg h r _)
  | ldRegImm r n => exact .next (hP.setReg h r n)
  | ldRegHl r => exact Res.All.bind_out (hP.memRead _ h) fun _ _ h1 => hP.setReg h1 r _
  | ldHlReg r => exact hP.storeByte _ _ h
  | ldHlImm n => exact hP.storeByte _ _ h
  | ldABc => exact hP.loadA _ h
  | ldADe => exact hP.loadA _ h
  | ldBcA => exact hP.storeByte _ _ h
  | ldDeA => exact hP.storeByte _ _ h
  | ldAHlInc => exact hP.loadAThenHl _ h
  | ldAHlDec => exact hP.loadAThenHl _ h
  | ldHlIncA => exact hP.storeAThenHl _ h
  | ldHlDecA => exact hP.storeAThenHl _ h
  | ldANn nn => exact hP.loadA _ h
  | ldNnA nn => exact hP.storeByte _ _ h
  | ldhAN n => exact hP.loadA _ h
  | ldhNA n => exact hP.storeByte _ _ h
  | ldhAC => exact hP.loadA _ h
  | ldhCA => exact hP.storeByte _ _ h
  | nop => exact .next h
  | halt =>
    have waits (r : RunState) : NextHas P (.next { s with runState := r }) := hP.next h rfl
    simp only [Machine.execShape, haltCpu]
    split
    · exact waits .halted
    · split
      · exact waits .halted
      · exact waits .haltedBug
  | stop => exact hP.next h rfl
  | di => exact hP.next h rfl
  | ei =>
    refine .next ?_
    split
    · exact h
    · exact hP.of_cpu h rfl
  | cbPrefix => exact absurd rfl hsh
  | illegal op => exact nextHas_raise _ s

/-- Every whole instruction keeps `P`. -/
theorem exec (hP : StepClosed P) {i : Instr} (hi : i.wellFormed = true) (h : P s) : NextHas P (exec i s) := by
  rw [exec_eq]
  exact hP.execShape (shape_ne_cbPrefix hi) h

/-- Every step keeps `P`, in every run state, also where it dispatches. -/
theorem step (hP : StepClosed P) (h : P s) (e : step s = .next t) : P t :=
  step_keeps (P := P) (fun _ _ h hd => (hP.dispatch h).of_ok hd) (fun _ _ h hi => (hP.internal h).of_ok hi)
    (fun _ h => hP.of_cpu h rfl) (fun bug _ _ _ h hf => (hP.fetchInstr bug h).of_ok hf)
    (fun _ _ t _ _ hf h he => hP.exec (fetchInstr_wellFormed hf) h t he) h e

end StepClosed

end Sys2Proof.Machine
end

section
/-! The device map (20_memory.md R71 to R75): what construction finds is an address with two owners, and no step
changes the platform. -/

namespace Sys2Proof.Machine

/-! ### Address ranges -/

theorem rangeHas_iff (r : AddrRange) (a : Word) :
    rangeHas r a = true ↔ r.first.toNat ≤ a.toNat ∧ a.toNat ≤ r.last.toNat := by simp [rangeHas]

theorem inRanges_iff (rs : List AddrRange) (a : Word) : inRanges rs a = true ↔ ∃ r ∈ rs, rangeHas r a = true := by
  simp [inRanges]

theorem inRanges_append (rs qs : List AddrRange) (a : Word) :
    inRanges (rs ++ qs) a = true ↔ inRanges rs a = true ∨ inRanges qs a = true := by simp [inRanges]

/-- No address is in both sets of ranges. -/
def Apart (rs qs : List AddrRange) : Prop := ∀ a : Word, ¬(inRanges rs a = true ∧ inRanges qs a = true)

theorem apart_iff (rs qs : List AddrRange) :
    Apart rs qs ↔ ∀ q ∈ qs, ∀ r ∈ rs, ∀ a, ¬(rangeHas q a = true ∧ rangeHas r a = true) := by
  simp only [Apart, inRanges_iff]
  exact ⟨fun h q hq r hr a ⟨ha, hb⟩ => h a ⟨⟨r, hr, hb⟩, q, hq, ha⟩,
    fun h a ⟨⟨r, hr, hb⟩, q, hq, ha⟩ => h q hq r hr a ⟨ha, hb⟩⟩

theorem apart_append_left (rs rs' qs : List AddrRange) : Apart (rs ++ rs') qs ↔ Apart rs qs ∧ Apart rs' qs := by
  simp only [Apart, inRanges_append, or_and_right, not_or, forall_and]

theorem noSharedAddress_cons (rs : List AddrRange) (owners : List (List AddrRange)) :
    NoSharedAddress (rs :: owners) ↔ (∀ qs ∈ owners, Apart rs qs) ∧ NoSharedAddress owners := List.pairwise_cons

/-! ### Construction -/

/-- The larger of the two first addresses is in both ranges where any address is. -/
theorem sharedAddr_eq_none (r q : AddrRange) :
    sharedAddr r q = none ↔ ∀ a : Word, ¬(rangeHas r a = true ∧ rangeHas q a = true) := by
  simp only [sharedAddr, rangeHas_iff, ite_eq_right_iff, reduceCtorEq, imp_false, not_le]
  constructor
  · intro h a ha
    omega
  · intro h
    have hr := h r.first
    have hq := h q.first
    omega

theorem lowestClaimed_eq_none (r : AddrRange) (owned : List AddrRange) :
    lowestClaimed r owned = none ↔ ∀ q ∈ owned, sharedAddr r q = none := by
  induction owned with
  | nil => simp [lowestClaimed]
  | cons q owned ih =>
    rw [lowestClaimed, List.forall_mem_cons, ← ih]
    cases sharedAddr r q <;> cases lowestClaimed r owned <;> simp

theorem claimedTwice_eq_none (ranges owned : List AddrRange) :
    claimedTwice ranges owned = none ↔ Apart owned ranges := by
  simp only [apart_iff, ← sharedAddr_eq_none, ← lowestClaimed_eq_none]
  induction ranges with
  | nil => simp [claimedTwice]
  | cons r ranges ih =>
    rw [claimedTwice, List.forall_mem_cons, ← ih]
    cases lowestClaimed r owned <;> simp

/-- The devices attach exactly where no address has two claimants among them and what is owned already (R72). -/
theorem attachAll_eq_none (devices : List Device) (owned : List AddrRange) :
    attachAll devices owned = none ↔ NoSharedAddress (owned :: devices.map Device.ranges) := by
  induction devices generalizing owned with
  | nil => simp [attachAll, NoSharedAddress]
  | cons d devices ih =>
    have first : attachAll (d :: devices) owned = none ↔
        claimedTwice d.ranges owned = none ∧ attachAll devices (owned ++ d.ranges) = none := by
      rw [attachAll]
      cases claimedTwice d.ranges owned <;> simp
    rw [first, ih, claimedTwice_eq_none]
    simp only [List.map_cons, noSharedAddress_cons, List.forall_mem_cons, apart_append_left, forall_and, and_assoc]

theorem init_cfg (cfg : Config) : (State.init cfg).cfg = cfg := by
  unfold State.init
  split <;> rfl

/-- What construction answers a state for: a platform without an overlap, in the reset state (R72, R420). -/
theorem construct_eq_next {cfg : Config} {s : State} : construct cfg = .next s ↔
    NoSharedAddress (cpuRanges :: cfg.devices.map Device.ranges) ∧ State.init cfg = s := by
  rw [← attachAll_eq_none, construct]
  cases attachAll cfg.devices cpuRanges <;> simp

/-! ### Steps -/

/-- The platform's parameters are no part of what a step can change (R74). -/
theorem cfg_stepClosed (c : Config) : StepClosed (fun s => s.cfg = c) :=
  { cfg_closed c with
    cpu := fun _ _ h => h
    accept := fun _ _ h => h }

theorem step_cfg {s t : State} (h : step s = .next t) : t.cfg = s.cfg := (cfg_stepClosed s.cfg).step rfl h

/-- Settles O58: construction refuses a platform with a shared address, and the owners are a function of the
parameters, which every step keeps. -/
theorem deviceMapIsConstant : Obligations.DeviceMapIsConstant := by
  constructor
  · intro cfg s h
    obtain ⟨apart, rfl⟩ := construct_eq_next.mp h
    exact ⟨init_cfg cfg, apart⟩
  · intro s t h
    exact ⟨step_cfg h, fun a => by rw [step_cfg h]⟩

end Sys2Proof.Machine
end

section
/-! Single bits (44_bit.md R290 to R295): BIT writes the flags alone; RES and SET write a byte and no flag, in the
memory form always with a write cycle. -/

namespace Sys2Proof.Machine

/-! ### Modifying a byte of memory without a flag -/

/-- What follows a read and a write may be said in any words that agree where the cycles have left the CPU alone
(R167). -/
theorem ModifiesThen.congr {a : Word} {s : State} {o : Out} {g : Byte → Byte} {f f' : Byte → State → State}
    (h : ModifiesThen a s o g f) (hf : ∀ v t, SameCpu s t → f v t = f' v t) : ModifiesThen a s o g f' := by
  obtain ⟨reads, readFault⟩ := h
  refine ⟨fun v t ht => ?_, readFault⟩
  obtain ⟨writes, writeFault⟩ := reads v t ht
  refine ⟨fun u hu => ?_, writeFault⟩
  rw [writes u hu, hf v u ((memRead_sameCpu ht).trans (memWrite_sameCpu hu))]

/-- The shared read-modify-write where it passes the flags through: the two cycles are all it does. -/
theorem modifiesThen_modifyHl_flags_kept {s : State} {o : Out} {g : Byte → Byte}
    (e : o = modifyHl (fun v f => (g v, f)) s) : ModifiesThen s.hl s o g fun _ t => t :=
  (modifiesThen_modifyHl e fun _ => rfl).congr fun _ t same => by rw [← same.flags]

/-! ### The statements of 44_bit.md -/

/-- Settles O22: the flags are those of `bitFlags`, made from the register or from the one byte read; no cycle
changes the C that is kept. -/
theorem bitTests : Obligations.BitTests := by
  intro i s b
  constructor
  · intro r h
    exact ⟨encode_of_shape h, exec_of_shape h s⟩
  · intro h
    have kept (v : Byte) (t : State) (same : SameCpu s t) :
        { t with flags := bitFlags b v t.flags } = { t with flags := ⟨!v.getLsbD b, false, true, s.flags.c⟩ } := by
      rw [bitFlags, same.flags]
    exact ⟨encode_of_shape h, readsThen_of_bind (exec_of_shape h s) kept⟩

/-- Settles O23: the byte written is `resBit` or `setBit` of the byte read, and `modifyHl` writes it whatever it
is. -/
theorem resAndSet : Obligations.ResAndSet := by
  intro i s b x
  cases x with
  | false =>
    constructor
    · intro r (h : i.shape = .resReg b r)
      exact ⟨encode_of_shape h, resBit b (s.reg r), bitMade_resBit b _, exec_of_shape h s⟩
    · intro (h : i.shape = .resHl b)
      exact ⟨encode_of_shape h, resBit b, bitMade_resBit b, modifiesThen_modifyHl_flags_kept (exec_of_shape h s)⟩
  | true =>
    constructor
    · intro r (h : i.shape = .setReg b r)
      exact ⟨encode_of_shape h, setBit b (s.reg r), bitMade_setBit b _, exec_of_shape h s⟩
    · intro (h : i.shape = .setHl b)
      exact ⟨encode_of_shape h, setBit b, bitMade_setBit b, modifiesThen_modifyHl_flags_kept (exec_of_shape h s)⟩

end Sys2Proof.Machine
end

section
/-! The illegal opcodes (48_system.md R371): each is one byte, its fetch is one machine cycle, and it stops the machine
there. -/

namespace Sys2Proof.Machine

/-- The opcodes with no instruction are the eleven of R128. -/
theorem illegal_opcode_mem {i : Instr} {op : Byte} (h : i.shape = .illegal op) :
    op ∈ [0xD3, 0xDB, 0xDD, 0xE3, 0xE4, 0xEB, 0xEC, 0xED, 0xF4, 0xFC, 0xFD] := by
  cases i <;> cases h <;> decide

theorem encode_of_illegal {i : Instr} {op : Byte} (h : i.shape = .illegal op) : encode i = [op] := encode_of_shape h

theorem fetchedBytes_of_illegal {i : Instr} {op : Byte} (h : i.shape = .illegal op) : i.fetchedBytes = 1 := by
  simp only [Instr.fetchedBytes, h, encode_of_illegal h, List.length_singleton]

/-- The fault keeps the state it is raised in, with the record of itself added. -/
theorem exec_of_illegal {i : Instr} {op : Byte} (h : i.shape = .illegal op) (s : State) :
    exec i s = .fault (.illegalOpcode op s.opPc { s with fault := some (.illegalOpcode op s.opPc) }) :=
  exec_of_shape h s

/-- The address an `IllegalOpcode` fault will name is the one the opcode is fetched from (R158). -/
theorem fetchInstr_opPc {bug : Bool} {s t : State} {i : Instr} (h : fetchInstr bug s = .ok i t) : t.opPc = s.pc := by
  obtain ⟨_, same⟩ := fetchInstr_cpu h
  exact same.opPc

theorem fetchInstr_flags {bug : Bool} {s t : State} {i : Instr} (h : fetchInstr bug s = .ok i t) :
    t.flags = s.flags := by
  obtain ⟨_, same⟩ := fetchInstr_cpu h
  exact same.flags

/-- The fetch of an illegal opcode is one machine cycle: no operand byte follows it. -/
theorem fetchInstr_called_of_illegal {bug : Bool} {s t : State} {i : Instr} {op : Byte} (h : i.shape = .illegal op)
    (hf : fetchInstr bug s = .ok i t) : Called 1 s t := by
  have k := fetchInstr_called hf
  rwa [fetchedBytes_of_illegal h] at k

/-- Settles O37: the fault is the one meaning of the illegal shape, and what it names and leaves is what the fetch of
its one byte made. -/
theorem illegalOpcodesStop : Obligations.IllegalOpcodesStop := by
  intro i op h
  exact ⟨illegal_opcode_mem h, encode_of_illegal h, exec_of_illegal h, fun _ _ _ _ hf => fetchInstr_opPc hf,
    fun _ _ _ hf => ⟨fetchInstr_flags hf, fetchInstr_called_of_illegal h hf⟩⟩

end Sys2Proof.Machine
end

section
/-! Decoding and encoding (30_encoding.md): the two round trips, and where the decoder rejects. -/

namespace Sys2Proof.Machine

open Sys2Proof.Laws

/-! ### From an instruction to its bytes and back -/

/-- Every row decodes from its own encoding: the word rows by putting their two bytes together again, the others by
computation alone. -/
theorem roundTrip (i : Instr) : RoundTrip.Statement i := by
  cases i with
  | ldBcNn nn => exact RoundTrip.ldBcNn nn
  | ldIndNnSp nn => exact RoundTrip.ldIndNnSp nn
  | ldDeNn nn => exact RoundTrip.ldDeNn nn
  | ldHlNn nn => exact RoundTrip.ldHlNn nn
  | ldSpNn nn => exact RoundTrip.ldSpNn nn
  | jpNzNn nn => exact RoundTrip.jpNzNn nn
  | jpNn nn => exact RoundTrip.jpNn nn
  | callNzNn nn => exact RoundTrip.callNzNn nn
  | jpZNn nn => exact RoundTrip.jpZNn nn
  | callZNn nn => exact RoundTrip.callZNn nn
  | callNn nn => exact RoundTrip.callNn nn
  | jpNcNn nn => exact RoundTrip.jpNcNn nn
  | callNcNn nn => exact RoundTrip.callNcNn nn
  | jpCNn nn => exact RoundTrip.jpCNn nn
  | callCNn nn => exact RoundTrip.callCNn nn
  | ldIndNnA nn => exact RoundTrip.ldIndNnA nn
  | ldAIndNn nn => exact RoundTrip.ldAIndNn nn
  | cbPrefix => exact nofun
  | _ => exact RoundTrip.of_rfl fun _ => rfl

/-- Settles O1: the round trips of the rows. -/
theorem decodeOfEncode : Obligations.DecodeOfEncode := fun i rest h => roundTrip i h rest

/-! ### From bytes to an instruction and back -/

/-- What a decoder that answers has read: a whole instruction's encoding, STOP with whatever follows it, or the CB byte
by itself. -/
theorem decode_cons_ok {op : Byte} {tail rest : List Byte} {i : Instr} (h : decode (op :: tail) = .ok (i, rest)) :
    (i.wellFormed = true ∧ i ≠ .stop ∧ op :: tail = encode i ++ rest) ∨
      (i = .stop ∧ op = 0x10 ∧ rest = tail.drop 1) ∨ (i = .cbPrefix ∧ op = 0xCB ∧ tail = [] ∧ rest = []) := by
  have ne_stop {j : Instr} (h : (j.shape == .stop) = false) : j ≠ .stop := by rintro rfl; exact nomatch h
  have row := row_ok op
  simp only [decode] at h
  revert h row
  generalize opEntry op = entry
  cases entry with
  | op j =>
    intro h ⟨enc, wf, _, notStop⟩
    cases h
    exact .inl ⟨wf, ne_stop notStop, by rw [enc]; rfl⟩
  | opN f | opE f =>
    intro h row
    cases tail with
    | nil => exact nomatch h
    | cons n more =>
      obtain ⟨enc, wf, _, notStop⟩ := row n
      cases h
      exact .inl ⟨wf, ne_stop notStop, by rw [enc]; rfl⟩
  | opNn f =>
    intro h row
    match tail with
    | [] | [_] => exact nomatch h
    | lo :: hi :: more =>
      obtain ⟨enc, wf, _, notStop⟩ := row (hi ++ lo)
      cases h
      exact .inl ⟨wf, ne_stop notStop, by rw [enc, loByte_append, hiByte_append]; rfl⟩
  | cb =>
    rintro h rfl
    cases tail with
    | nil => cases h; exact .inr (.inr ⟨rfl, rfl, rfl, rfl⟩)
    | cons c more =>
      obtain ⟨enc, wf, _, notStop, _⟩ := cb_ok c
      cases h
      exact .inl ⟨wf, ne_stop notStop, by rw [enc]; rfl⟩
  | stop =>
    rintro h rfl
    cases h
    exact .inr (.inl ⟨rfl, rfl, rfl⟩)

/-- Settles O2: each kind of answer of the decoder gives the bytes the statement says, and is none of the other
kinds. -/
theorem decodedBytesAreTheEncoding : Obligations.DecodedBytesAreTheEncoding := by
  intro bytes rest i h
  cases bytes with
  | nil => exact nomatch h
  | cons op tail =>
    obtain ⟨wf, notStop, whole⟩ | ⟨rfl, rfl, rfl⟩ | ⟨rfl, rfl, rfl, rfl⟩ := decode_cons_ok h
    · exact ⟨fun _ => whole, fun e => absurd e notStop, fun e => absurd (wf.symm.trans e) nofun⟩
    · refine ⟨fun e => absurd rfl e, fun _ => ?_, nofun⟩
      cases tail with
      | nil => exact .inr ⟨rfl, rfl⟩
      | cons ignored more => exact .inl ⟨ignored, rfl⟩
    · exact ⟨fun _ => rfl, nofun, fun _ => rfl⟩

/-! ### Where the decoder rejects -/

/-- No row reads more than two bytes after its opcode. -/
theorem decode_three_total (b0 b1 b2 : Byte) (rest : List Byte) :
    ∃ i left, decode (b0 :: b1 :: b2 :: rest) = .ok (i, left) := by
  simp only [decode]
  generalize opEntry b0 = entry
  cases entry <;> exact ⟨_, _, rfl⟩

/-- A rejected opcode is one whose operand bytes are missing: it decodes only with one more of them at least. -/
theorem decode_cons_error {op : Byte} {tail : List Byte} {e : DecodeError} (h : decode (op :: tail) = .error e) :
    e = .truncated op ∧
      ∀ more i left, decode (op :: tail ++ more) = .ok (i, left) → left.length < more.length := by
  simp only [decode, List.cons_append] at h ⊢
  revert h
  generalize opEntry op = entry
  cases entry with
  | op j => exact nofun
  | opN f | opE f =>
    intro h
    cases tail with
    | nil =>
      cases h
      refine ⟨rfl, fun more i left hm => ?_⟩
      cases more with
      | nil => exact nomatch hm
      | cons n more => cases hm; exact Nat.lt_succ_self _
    | cons n tail => exact nomatch h
  | opNn f =>
    intro h
    match tail with
    | [] =>
      cases h
      refine ⟨rfl, fun more i left hm => ?_⟩
      match more with
      | [] | [_] => exact nomatch hm
      | lo :: hi :: more => cases hm; exact Nat.lt_add_of_pos_right Nat.two_pos
    | [lo] =>
      cases h
      refine ⟨rfl, fun more i left hm => ?_⟩
      cases more with
      | nil => exact nomatch hm
      | cons hi more => cases hm; exact Nat.lt_succ_self _
    | lo :: hi :: tail => exact nomatch h
  | cb =>
    intro h
    cases tail <;> exact nomatch h
  | stop => exact nofun

/-- Settles O3. -/
theorem decoderIsTotal : Obligations.DecoderIsTotal :=
  ⟨decode_three_total, rfl, fun _ _ _ h => decode_cons_error h⟩

/-- Settles O4: closed words, which the decoder computes. -/
theorem knownWordsDecode : Obligations.KnownWordsDecode := by
  refine ⟨?_, ?_, ?_, ?_, ?_, ?_, ?_, ?_, ?_, ?_, ?_, ?_, ?_, ?_, ?_, ?_⟩ <;> rfl

end Sys2Proof.Machine
end

section
/-! The invariant of a running machine (10_state.md R45, R51): it holds at construction and every step keeps it. -/

namespace Sys2Proof.Machine

/-- Settles O59: construction starts with empty memory and an idle DMA engine in both boot modes. -/
theorem invariantAtConstruction : Obligations.InvariantAtConstruction := by
  have init (cfg : Config) : (State.init cfg).Inv := by
    unfold State.init
    cases cfg.bootMode with
    | postBoot => exact ⟨rfl, Nat.zero_le _, Nat.zero_le _, nofun, rfl⟩
    | bootRom => exact ⟨rfl, Nat.zero_le _, Nat.zero_le _, nofun, rfl⟩
  exact ⟨init, init Config.default⟩

/-- The invariant does not look at the CPU's own part of the state, nor at IME, IF and the run state, which are all an
accepted interrupt changes. -/
theorem inv_stepClosed : StepClosed State.Inv :=
  { inv_closed with
    cpu := fun _ _ h => h.congr rfl rfl rfl rfl rfl
    accept := fun _ _ h => h.congr rfl rfl rfl rfl rfl }

/-- Settles O60: every bus operation keeps the invariant (`inv_closed`), and so does every other part of a step. -/
theorem stepKeepsInvariant : Obligations.StepKeepsInvariant := fun _ _ h e => inv_stepClosed.step h e

end Sys2Proof.Machine
end

section
/-! Construction and the host's entry points (10_state.md R54, 20_memory.md R71 and R72, 70_reset_and_hazards.md R420
to R425): the reset values, the overlap that stops construction, and the View. -/

namespace Sys2Proof.Machine

/-! ### The values at construction -/

/-- F, BC, DE and HL of the column PostBoot from their flags and bytes (R54, R421). -/
theorem postBoot_bytes : Flags.toByte ⟨true, false, true, true⟩ = 0xB0 ∧
    (0x00#8 ++ 0x13#8 : Word) = 0x0013 ∧ (0x00#8 ++ 0xD8#8 : Word) = 0x00D8 ∧
    (0x01#8 ++ 0x4D#8 : Word) = 0x014D := by decide

theorem bootRom_bytes : Flags.toByte ⟨false, false, false, false⟩ = 0x00 ∧
    (0x00#8 ++ 0x00#8 : Word) = 0x0000 := by decide

/-- Settles O5: both columns of R54 field by field. -/
theorem constructionValues : Obligations.ConstructionValues := by
  obtain ⟨f, bc, de, hl⟩ := postBoot_bytes
  obtain ⟨f0, zero⟩ := bootRom_bytes
  intro cfg
  unfold State.init
  cases cfg.bootMode with
  | postBoot =>
    exact ⟨fun _ => ⟨rfl, f, bc, de, hl, rfl, rfl, rfl⟩, nofun,
      rfl, rfl, rfl, rfl, rfl, rfl, rfl, rfl, rfl, rfl, rfl, rfl, rfl⟩
  | bootRom =>
    exact ⟨nofun, fun _ => ⟨rfl, f0, zero, zero, zero, rfl, rfl, rfl⟩,
      rfl, rfl, rfl, rfl, rfl, rfl, rfl, rfl, rfl, rfl, rfl, rfl, rfl⟩

/-- Settles O9: ten registers are set, and with those ten put back the state is as before. -/
theorem postBootEntryPoint : Obligations.PostBootEntryPoint := by
  obtain ⟨f, bc, de, hl⟩ := postBoot_bytes
  exact fun _ => ⟨rfl, f, bc, de, hl, rfl, rfl, rfl⟩

/-! ### The overlap that construction records (R72, R380) -/

/-- `a` is the lowest address of `r` that is in `owned` too. -/
structure LowestShared (r : AddrRange) (owned : List AddrRange) (a : Word) : Prop where
  claimed : rangeHas r a = true
  taken : inRanges owned a = true
  lowest : ∀ b : Word, rangeHas r b = true → inRanges owned b = true → a.toNat ≤ b.toNat

theorem LowestShared.append_right {r : AddrRange} {rs qs : List AddrRange} {a : Word} (h : LowestShared r rs a)
    (hq : ∀ b, rangeHas r b = true → inRanges qs b = true → a.toNat ≤ b.toNat) : LowestShared r (rs ++ qs) a where
  claimed := h.claimed
  taken := (inRanges_append rs qs a).mpr (.inl h.taken)
  lowest b hr hb := ((inRanges_append rs qs b).mp hb).elim (h.lowest b hr) (hq b hr)

theorem LowestShared.append_left {r : AddrRange} {rs qs : List AddrRange} {a : Word} (h : LowestShared r qs a)
    (hr : ∀ b, rangeHas r b = true → inRanges rs b = true → a.toNat ≤ b.toNat) : LowestShared r (rs ++ qs) a where
  claimed := h.claimed
  taken := (inRanges_append rs qs a).mpr (.inr h.taken)
  lowest b hb hs := ((inRanges_append rs qs b).mp hs).elim (hr b hb) (h.lowest b hb)

theorem inRanges_singleton (q : AddrRange) (a : Word) : inRanges [q] a = rangeHas q a := by simp [inRanges]

/-- The larger of the two first addresses, where the ranges meet. -/
theorem sharedAddr_eq_some {r q : AddrRange} {x : Nat} (h : sharedAddr r q = some x) :
    ∃ a : Word, a.toNat = x ∧ LowestShared r [q] a := by
  simp only [sharedAddr, Option.ite_none_right_eq_some, Option.some.injEq] at h
  obtain ⟨meet, rfl⟩ := h
  have spec (a : Word) (ha : a.toNat = max r.first.toNat q.first.toNat) : LowestShared r [q] a := by
    constructor
    · rw [rangeHas_iff]; omega
    · rw [inRanges_singleton, rangeHas_iff]; omega
    · intro b hr hq
      rw [inRanges_singleton] at hq
      rw [rangeHas_iff] at hr hq
      omega
  obtain first | first := Nat.le_total r.first.toNat q.first.toNat
  · exact ⟨q.first, (max_eq_right first).symm, spec _ (max_eq_right first).symm⟩
  · exact ⟨r.first, (max_eq_left first).symm, spec _ (max_eq_left first).symm⟩

theorem lowestClaimed_eq_none_iff (r : AddrRange) (owned : List AddrRange) :
    lowestClaimed r owned = none ↔ ∀ a, rangeHas r a = true → ¬inRanges owned a = true := by
  simp only [lowestClaimed_eq_none, sharedAddr_eq_none, inRanges_iff]
  exact ⟨fun h a ha ⟨q, hq, hb⟩ => h q hq a ⟨ha, hb⟩, fun h q hq a ⟨ha, hb⟩ => h a ha ⟨q, hq, hb⟩⟩

theorem lowestClaimed_eq_some {r : AddrRange} {owned : List AddrRange} {x : Nat}
    (h : lowestClaimed r owned = some x) : ∃ a : Word, a.toNat = x ∧ LowestShared r owned a := by
  induction owned generalizing x with
  | nil => exact nomatch h
  | cons q rest ih =>
    rw [lowestClaimed] at h
    cases hq : sharedAddr r q with
    | none =>
      rw [hq] at h
      obtain ⟨a, ha, shared⟩ := ih h
      refine ⟨a, ha, shared.append_left (rs := [q]) fun b hr hb => ?_⟩
      rw [inRanges_singleton] at hb
      exact absurd ⟨hr, hb⟩ ((sharedAddr_eq_none r q).mp hq b)
    | some y =>
      obtain ⟨a, rfl, shared⟩ := sharedAddr_eq_some hq
      cases hrest : lowestClaimed r rest with
      | none =>
        rw [hq, hrest] at h
        cases h
        exact ⟨a, rfl, shared.append_right fun b hr hb =>
          absurd hb ((lowestClaimed_eq_none_iff r rest).mp hrest b hr)⟩
      | some z =>
        obtain ⟨c, rfl, sharedRest⟩ := ih hrest
        rw [hq, hrest] at h
        cases h
        obtain le | le := Nat.le_total a.toNat c.toNat
        · exact ⟨a, (min_eq_left le).symm, shared.append_right fun b hr hb => le.trans (sharedRest.lowest b hr hb)⟩
        · exact ⟨c, (min_eq_right le).symm,
            sharedRest.append_left (rs := [q]) fun b hr hb => le.trans (shared.lowest b hr hb)⟩

/-- The first range of a device with an address that is owned already, and the lowest such address. -/
theorem claimedTwice_eq_some {ranges owned : List AddrRange} {x : Nat} (h : claimedTwice ranges owned = some x) :
    ∃ (earlier later : List AddrRange) (r : AddrRange) (a : Word), ranges = earlier ++ r :: later ∧
      Apart owned earlier ∧ a.toNat = x ∧ LowestShared r owned a := by
  induction ranges with
  | nil => exact nomatch h
  | cons r rest ih =>
    rw [claimedTwice] at h
    cases hr : lowestClaimed r owned with
    | some y =>
      rw [hr] at h
      cases h
      obtain ⟨a, ha, shared⟩ := lowestClaimed_eq_some hr
      exact ⟨[], rest, r, a, rfl, (apart_iff owned []).mpr nofun, ha, shared⟩
    | none =>
      rw [hr] at h
      obtain ⟨earlier, later, r', a, rfl, apart, ha, shared⟩ := ih h
      refine ⟨r :: earlier, later, r', a, rfl, ?_, ha, shared⟩
      rw [← claimedTwice_eq_none] at apart ⊢
      rw [claimedTwice, hr]
      exact apart

/-- The first device that does not attach, after those that do. -/
theorem attachAll_eq_some {devices : List Device} {owned : List AddrRange} {x : Nat}
    (h : attachAll devices owned = some x) :
    ∃ (before after : List Device) (d : Device), devices = before ++ d :: after ∧ attachAll before owned = none ∧
      claimedTwice d.ranges (owned ++ before.flatMap Device.ranges) = some x := by
  induction devices generalizing owned with
  | nil => exact nomatch h
  | cons d rest ih =>
    rw [attachAll] at h
    cases hd : claimedTwice d.ranges owned with
    | some y =>
      rw [hd] at h
      cases h
      exact ⟨[], rest, d, rfl, rfl, by simpa using hd⟩
    | none =>
      rw [hd] at h
      obtain ⟨before, after, d', rfl, attached, twice⟩ := ih h
      exact ⟨d :: before, after, d', rfl, by rw [attachAll, hd]; exact attached, by simpa using twice⟩

theorem construct_of_attachAll_eq_some {cfg : Config} {x : Nat} (h : attachAll cfg.devices cpuRanges = some x) :
    construct cfg = .fault (.attachOverlap (BitVec.ofNat 16 x)) := by rw [construct, h]

/-- Settles O6: construction answers a state exactly where no address is shared; where it does not, the search that
found the address has passed over the devices, the ranges and the addresses before it. -/
theorem overlapIsRejected : Obligations.OverlapIsRejected := by
  intro cfg
  refine ⟨fun apart => construct_eq_next.mpr ⟨apart, rfl⟩, fun overlap => ?_⟩
  cases found : attachAll cfg.devices cpuRanges with
  | none => exact absurd ((attachAll_eq_none _ _).mp found) overlap
  | some x =>
    obtain ⟨before, after, d, devices, attached, twice⟩ := attachAll_eq_some found
    obtain ⟨earlier, later, r, a, ranges, apart, rfl, shared⟩ := claimedTwice_eq_some twice
    refine ⟨a, by simpa using construct_of_attachAll_eq_some found, before, after, d, earlier, later, r, devices,
      ranges, (attachAll_eq_none _ _).mp attached, fun b ⟨he, ho⟩ => apart b ⟨ho, he⟩, shared.claimed, shared.taken,
      shared.lowest⟩

/-! ### The View (R425) -/

/-- The five stored bits of IF read back from their byte (R41). -/
theorem if5_of_byte (f : BitVec 5) : (f.setWidth 8).setWidth 5 = f := by
  revert f; decide

/-- A write of IF keeps the low five bits (R41). -/
theorem byte_of_if5 (v : Byte) : (v.setWidth 5).setWidth 8 = v &&& 0x1F := by
  revert v; decide

theorem View.inDomain_iff (v : View) : v.inDomain = true ↔ v.dmaDelay ≤ 4 ∧ v.dmaIndex ≤ 160 := by
  simp [View.inDomain]

theorem applyView_view {s : State} (h : s.view.inDomain = true) : s.applyView s.view = some s := by
  rw [State.applyView, if_pos h]
  simp only [State.view, ofByte_toByte, if5_of_byte]

theorem view_of_applyView {s t : State} {v : View} (h : s.applyView v = some t) :
    t.view = { v with f := v.f &&& 0xF0, if5 := v.if5 &&& 0x1F } := by
  simp only [State.applyView, Option.ite_none_right_eq_some, Option.some.injEq] at h
  obtain ⟨_, rfl⟩ := h
  simp only [State.view, toByte_ofByte, byte_of_if5]

/-- Settles O8: F and IF are the two fields of a View that are stored in fewer bits, and the others are copied. -/
theorem viewRoundTrip : Obligations.ViewRoundTrip := by
  refine ⟨fun s delay index => applyView_view ((View.inDomain_iff s.view).mpr ⟨delay, index⟩), fun s t v h => ?_,
    fun s v => ?_⟩
  · refine ⟨view_of_applyView h, ?_⟩
    simp only [State.applyView, Option.ite_none_right_eq_some, Option.some.injEq] at h
    obtain ⟨_, rfl⟩ := h
    exact ⟨rfl, rfl, rfl, rfl, rfl, rfl⟩
  · rw [← View.inDomain_iff, State.applyView]
    cases v.inDomain <;> simp

end Sys2Proof.Machine
end

section
/-! 8-bit arithmetic (41_alu8.md): the carries of the add, DAA over decimal digits, and every form of the ALU
operations, INC and DEC. -/

namespace Sys2Proof.Machine

/-! ### The results of single operations -/

/-- Settles O10: the half carry and the carry of R190 are the carries out of bits 3 and 7 written over numbers. -/
theorem addFlagsAreBitCarries : Obligations.AddFlagsAreBitCarries := by
  intro a b cin
  have sum : (add8 a b cin).1 = a + b + (BitVec.ofBool cin).setWidth 8 := by rw [add8_eq a b cin State.reset]; rfl
  have half : decide (a.toNat % 16 + b.toNat % 16 + cin.toNat > 0x0F) = BitVec.carry 4 a b cin := rfl
  have carry : decide (a.toNat + b.toNat + cin.toNat > 0xFF) = BitVec.carry 8 a b cin := by
    rw [BitVec.carry, Nat.mod_eq_of_lt a.isLt, Nat.mod_eq_of_lt b.isLt]; rfl
  refine ⟨sum, ?_⟩
  rw [← half, ← carry]
  rfl

theorem ofInt_sub (n : Nat) (x y : Int) : BitVec.ofInt n (x - y) = BitVec.ofInt n x - BitVec.ofInt n y := by
  rw [Int.sub_eq_add_neg, BitVec.ofInt_add, BitVec.ofInt_neg, ← BitVec.sub_eq_add_neg]

/-- INC of a byte (R217). -/
theorem inc8_eq (v : Byte) (f : Flags) : inc8 v f =
    (v + 1, { z := decide (v = 0xFF), n := false, h := decide (v.toNat % 16 = 15), c := f.c }) := by
  have sum : BitVec.ofNat 8 (v.toNat + 1) = v + 1 := by simp [BitVec.ofNat_add]
  have zero : (v + 1 == 0) = decide (v = 0xFF) := by
    rw [beq_eq_decide]
    exact decide_eq_decide.mpr ⟨fun h => by bv_omega, fun h => by rw [h]; rfl⟩
  simp only [inc8, sum, zero]

/-- DEC of a byte (R219). -/
theorem dec8_eq (v : Byte) (f : Flags) : dec8 v f =
    (v - 1, { z := decide (v = 0x01), n := true, h := decide (v.toNat % 16 = 0), c := f.c }) := by
  have difference : BitVec.ofInt 8 ((v.toNat : Int) - 1) = v - 1 := by
    rw [ofInt_sub, BitVec.ofInt_natCast, BitVec.ofNat_toNat, BitVec.setWidth_eq]; rfl
  have zero : (v - 1 == 0) = decide (v = 0x01) := by
    rw [beq_eq_decide]
    exact decide_eq_decide.mpr ⟨fun h => by bv_omega, fun h => by rw [h]; rfl⟩
  simp only [dec8, difference, zero]

/-! ### DAA (R221) -/

/-- What DAA adds after an addition. -/
def daaUp (a : Byte) (f : Flags) : Byte :=
  (if !f.n && f.c || !f.n && decide (a.toNat > 0x99) then 0x60 else 0x00) +
    if !f.n && f.h || !f.n && decide (a.toNat % 16 > 9) then 0x06 else 0x00

/-- What DAA takes away after a subtraction. -/
def daaDown (f : Flags) : Byte :=
  (if f.n && f.c then 0x60 else 0x00) + if f.n && f.h then 0x06 else 0x00

/-- DAA adds after an addition and subtracts after a subtraction, and only the first can set C. -/
theorem daaResult_eq (a : Byte) (f : Flags) : daaResult a f = (a + daaUp a f - daaDown f,
    { z := decide (a + daaUp a f - daaDown f = 0), n := f.n, h := false
      c := f.c || (!f.n && f.c || !f.n && decide (a.toNat > 0x99)) }) := by
  have narrow : BitVec.ofInt 8 (daaAdjust a f).1 = a + daaUp a f - daaDown f := by
    obtain ⟨z, n, h, c⟩ := f
    have self : BitVec.ofInt 8 (a.toNat : Int) = a := by
      rw [BitVec.ofInt_natCast, BitVec.ofNat_toNat, BitVec.setWidth_eq]
    cases n with
    | false =>
      by_cases high : c = true ∨ a.toNat > 0x99 <;> by_cases low : h = true ∨ a.toNat % 16 > 0x09 <;>
        simp [daaAdjust, daaUp, daaDown, high, low, BitVec.ofInt_add, self, BitVec.add_assoc]
    | true =>
      cases c <;> cases h <;> simp [daaAdjust, daaUp, daaDown, ofInt_sub, self, sub_sub]
  have carry : (daaAdjust a f).2 = (f.c || (!f.n && f.c || !f.n && decide (a.toNat > 0x99))) := by
    obtain ⟨z, n, h, c⟩ := f
    cases n <;> cases c <;> simp [daaAdjust]
  simp only [daaResult, narrow, carry, beq_eq_decide]

/-- Two decimal digits as a byte. -/
def bcd (n : Nat) : Byte := BitVec.ofNat 8 (n / 10 % 10 * 16 + n % 10)

theorem bcd_of_digits {n h l : Nat} (hh : h < 10) (hl : l < 10) (hn : n = 10 * h + l ∨ n = 100 + 10 * h + l) :
    (bcd n).toNat = 16 * h + l := by
  rw [bcd, BitVec.toNat_ofNat]
  omega

theorem exists_digits {n : Nat} (hn : n < 100) :
    ∃ h l, h < 10 ∧ l < 10 ∧ n = 10 * h + l ∧ (bcd n).toNat = 16 * h + l :=
  have digits : n = 10 * (n / 10) + n % 10 := by omega
  have high : n / 10 < 10 := by omega
  have low : n % 10 < 10 := by omega
  ⟨_, _, high, low, digits, bcd_of_digits high low (.inl digits)⟩

/-- DAA finds the decimal carries out of the two digits in H, in C and in the sum itself, and what it adds makes them
binary carries. -/
theorem daa_add_bcd {x y : Nat} (hx : x < 100) (hy : y < 100) (cin : Bool) :
    let r := add8 (bcd x) (bcd y) cin
    (daaResult r.1 r.2).1 = bcd (x + y + cin.toNat) ∧
      (daaResult r.1 r.2).2.c = decide (x + y + cin.toNat ≥ 100) := by
  intro r
  have hc : cin.toNat ≤ 1 := Bool.toNat_le cin
  obtain ⟨xh, xl, _, _, rfl, hbx⟩ := exists_digits hx
  obtain ⟨yh, yl, _, _, rfl, hby⟩ := exists_digits hy
  have sum : r.1.toNat = (16 * (xh + yh) + (xl + yl + cin.toNat)) % 256 := by
    rw [show r.1.toNat = ((bcd _).toNat + (bcd _).toNat + cin.toNat) % 256 from BitVec.toNat_ofNat _ 8, hbx, hby]
    omega
  have half : r.2.h = decide (xl + yl + cin.toNat > 15) :=
    decide_eq_decide.mpr (by rw [hbx, hby]; omega)
  have carry : r.2.c = decide (16 * (xh + yh) + (xl + yl + cin.toNat) > 255) :=
    decide_eq_decide.mpr (by rw [hbx, hby]; omega)
  have negative : r.2.n = false := rfl
  have high : (r.2.c || decide (r.1.toNat > 0x99)) = decide (10 * xh + xl + (10 * yh + yl) + cin.toNat ≥ 100) := by
    rw [carry, ← Bool.decide_or, sum]
    exact decide_eq_decide.mpr (by omega)
  have low : (r.2.h || decide (r.1.toNat % 16 > 9)) = decide (xl + yl + cin.toNat ≥ 10) := by
    rw [half, ← Bool.decide_or, sum]
    exact decide_eq_decide.mpr (by omega)
  rw [daaResult_eq]
  simp only [daaUp, daaDown, negative, Bool.not_false, Bool.true_and, Bool.false_and, high, low, decide_eq_true_eq,
    Bool.false_eq_true, if_false]
  constructor
  · apply BitVec.eq_of_toNat_eq
    split_ifs
    · rw [bcd_of_digits (h := xh + yh + 1 - 10) (l := xl + yl + cin.toNat - 10) (by omega) (by omega) (by omega)]
      simp [BitVec.toNat_add, sum]; omega
    · rw [bcd_of_digits (h := xh + yh - 10) (l := xl + yl + cin.toNat) (by omega) (by omega) (by omega)]
      simp [BitVec.toNat_add, sum]; omega
    · rw [bcd_of_digits (h := xh + yh + 1) (l := xl + yl + cin.toNat - 10) (by omega) (by omega) (by omega)]
      simp [BitVec.toNat_add, sum]; omega
    · rw [bcd_of_digits (h := xh + yh) (l := xl + yl + cin.toNat) (by omega) (by omega) (by omega)]
      simp [sum]; omega
  · rw [carry, ← Bool.decide_or]
    exact decide_eq_decide.mpr (by omega)

/-- The decimal borrow out of each digit is the binary one, and what DAA takes away makes 16 of it 10. -/
theorem daa_sub_bcd {x y : Nat} (hx : x < 100) (hy : y < 100) (cin : Bool) :
    let r := sub8 (bcd x) (bcd y) cin
    (daaResult r.1 r.2).1 = bcd (100 + x - y - cin.toNat) ∧
      (daaResult r.1 r.2).2.c = decide (x < y + cin.toNat) := by
  rw [sub8_eq]
  intro r
  have hc : cin.toNat ≤ 1 := Bool.toNat_le cin
  obtain ⟨xh, xl, _, _, rfl, hbx⟩ := exists_digits hx
  obtain ⟨yh, yl, _, _, rfl, hby⟩ := exists_digits hy
  have difference : r.1.toNat = (16 * xh + xl + 512 - (16 * yh + yl) - cin.toNat) % 256 := by
    simp only [r, BitVec.toNat_sub, hbx, hby]
    cases cin <;> simp <;> omega
  have half : r.2.h = decide (xl < yl + cin.toNat) :=
    decide_eq_decide.mpr (by rw [hbx, hby]; omega)
  have carry : r.2.c = decide (10 * xh + xl < 10 * yh + yl + cin.toNat) :=
    decide_eq_decide.mpr (by rw [hbx, hby]; omega)
  have negative : r.2.n = true := rfl
  rw [daaResult_eq]
  simp only [daaUp, daaDown, negative, Bool.not_true, Bool.true_and, Bool.false_and, half, carry, decide_eq_true_eq,
    Bool.or_false, Bool.false_eq_true, if_false]
  refine ⟨?_, trivial⟩
  apply BitVec.eq_of_toNat_eq
  split_ifs
  · rw [bcd_of_digits (h := xh + 9 - yh) (l := xl + 10 - yl - cin.toNat) (by omega) (by omega) (by omega)]
    simp [BitVec.toNat_sub, difference]; omega
  · rw [bcd_of_digits (h := xh + 10 - yh) (l := xl - yl - cin.toNat) (by omega) (by omega) (by omega)]
    simp [BitVec.toNat_sub, difference]; omega
  · rw [bcd_of_digits (h := xh - 1 - yh) (l := xl + 10 - yl - cin.toNat) (by omega) (by omega) (by omega)]
    simp [BitVec.toNat_sub, difference]; omega
  · rw [bcd_of_digits (h := xh - yh) (l := xl - yl - cin.toNat) (by omega) (by omega) (by omega)]
    simp [difference]; omega

/-- Settles O11. -/
theorem daaCorrectsDecimalArithmetic : Obligations.DaaCorrectsDecimalArithmetic := fun x y cin =>
  ⟨daa_add_bcd x.isLt y.isLt cin, daa_sub_bcd x.isLt y.isLt cin⟩

end Sys2Proof.Machine
end

section
/-! The meanings of the 8-bit ALU instructions (41_alu8.md) in their register, (HL) and immediate forms. -/

namespace Sys2Proof.Machine

/-- The three forms of an ALU operation differ in where the operand comes from only (R192). -/
theorem alu_forms {i : Instr} {s : State} {op : AluOp} {made : Byte → State → State}
    (h : ∀ v t, SameCpu s t → applyAlu op v t = made v t) :
    (∀ r, i.shape = .aluReg op r → encode i = [0b10#2 ++ aluCode op ++ regCode r] ∧
      exec i s = .next (made (s.reg r) s)) ∧
    (i.shape = .aluHl op → encode i = [0b10#2 ++ aluCode op ++ 0b110#3] ∧ ReadsThen s.hl s (exec i s) made) ∧
    ∀ n, i.shape = .aluImm op n → encode i = [0b11#2 ++ aluCode op ++ 0b110#3, n] ∧ exec i s = .next (made n s) := by
  refine ⟨fun r e => ⟨encode_of_shape e, ?_⟩, fun e => ⟨encode_of_shape e, ?_⟩, fun n e => ⟨encode_of_shape e, ?_⟩⟩
  · rw [← h _ s (.refl s)]
    exact exec_of_shape e s
  · exact readsThen_of_bind (exec_of_shape e s) h
  · rw [← h _ s (.refl s)]
    exact exec_of_shape e s

/-- Settles O12: both operations are `add8`, with the carry in that they name. -/
theorem addAndAdc : Obligations.AddAndAdc := by
  intro i s op cin hop
  refine alu_forms (made := fun v t => t.withSum s.a v cin) fun v t same => ?_
  have sum : aluResult op t.a v t.flags.c = add8 s.a v cin := by
    obtain ⟨rfl, rfl⟩ | ⟨rfl, rfl⟩ := hop <;> simp only [aluResult, same.a, same.flags]
  have writes : aluWritesA op = true := by obtain ⟨rfl, -⟩ | ⟨rfl, -⟩ := hop <;> rfl
  simp only [applyAlu, sum, add8_eq s.a v cin t, writes, if_true]
  rfl

/-- Settles O13: both operations are `sub8`, with the borrow in that they name. -/
theorem subAndSbc : Obligations.SubAndSbc := by
  intro i s op cin hop
  refine alu_forms (made := fun v t => t.withDifference s.a v cin) fun v t same => ?_
  have difference : aluResult op t.a v t.flags.c = sub8 s.a v cin := by
    obtain ⟨rfl, rfl⟩ | ⟨rfl, rfl⟩ := hop <;> simp only [aluResult, same.a, same.flags]
  have writes : aluWritesA op = true := by obtain ⟨rfl, -⟩ | ⟨rfl, -⟩ := hop <;> rfl
  simp only [applyAlu, difference, sub8_eq, writes, if_true]
  rfl

/-- Settles O14: Z is the test of the result, and H is set by AND alone. -/
theorem andXorOr : Obligations.AndXorOr := by
  intro i s op g hop made
  refine alu_forms (made := made) fun v t same => ?_
  simp only [made]
  obtain ⟨rfl, rfl⟩ | ⟨rfl, rfl⟩ | ⟨rfl, rfl⟩ := hop
  · simp only [applyAlu, aluResult, aluWritesA, and8, same.a, beq_eq_decide, decide_true, if_true]
  · simp only [applyAlu, aluResult, aluWritesA, xor8, same.a, beq_eq_decide, reduceCtorEq, decide_false, if_true]
  · simp only [applyAlu, aluResult, aluWritesA, or8, same.a, beq_eq_decide, reduceCtorEq, decide_false, if_true]

/-- Settles O15: the result of the subtraction is not written. -/
theorem compareWritesOnlyFlags : Obligations.CompareWritesOnlyFlags := by
  intro i s
  have compare (v : Byte) (t : State) (same : SameCpu s t) :
      applyAlu .cp v t = { t with flags := differenceFlags s.a v false } := by
    simp only [applyAlu, aluResult, aluWritesA, sub8_eq, same.a, Bool.false_eq_true, if_false]
  obtain ⟨reg, hl, imm⟩ := alu_forms (i := i) (op := .cp) compare
  refine ⟨fun r e => ⟨?_, (reg r e).2⟩, fun e => ⟨(hl e).1, (hl e).2⟩, fun n e => ⟨(imm n e).1, (imm n e).2⟩⟩
  rw [(reg r e).1]
  cases r <;> rfl

/-- Settles O16. -/
theorem incAndDecOfBytes : Obligations.IncAndDecOfBytes := by
  intro i s
  refine ⟨fun r e => ⟨encode_of_shape e, ?_⟩, fun e => ⟨encode_of_shape e, ?_⟩,
    fun r e => ⟨encode_of_shape e, ?_⟩, fun e => ⟨encode_of_shape e, ?_⟩⟩
  · rw [exec_of_shape e, execShape, incReg, inc8_eq]
  · exact modifiesThen_modifyHl (exec_of_shape e s) fun v => inc8_eq v s.flags
  · rw [exec_of_shape e, execShape, decReg, dec8_eq]
  · exact modifiesThen_modifyHl (exec_of_shape e s) fun v => dec8_eq v s.flags

/-- Settles O17: DAA by `daaResult_eq`; the others are the definitions of their results. -/
theorem daaCplScfCcf : Obligations.DaaCplScfCcf := by
  intro i s
  refine ⟨fun e => ⟨encode_of_shape e, ?_⟩, fun e => ⟨encode_of_shape e, ?_⟩,
    fun e => ⟨encode_of_shape e, exec_of_shape e s⟩, fun e => ⟨encode_of_shape e, exec_of_shape e s⟩⟩
  · rw [exec_of_shape e, execShape, decimalAdjust, daaResult_eq]
    rfl
  · rw [exec_of_shape e, execShape, complementA, cplResult, ← BitVec.xor_allOnes]
    rfl

end Sys2Proof.Machine
end

section
/-! 16-bit arithmetic, rotates and shifts (42_alu16.md, 43_rotate_shift.md). -/

namespace Sys2Proof.Machine

/-! ### Internal cycles and then a change of the CPU -/

theorem waitsThen_one_of_bind {s : State} {o : Out} {f g : State → State}
    (h : o = ((internal s).bind fun _ t => .ok () (g t)).out) (hg : ∀ t, SameCpu s t → g t = f t) :
    WaitsThen 1 s o f :=
  waitsThen_of_bind (by rw [internals_one]; exact h) hg

/-- Settles O18: what is added is read after the cycle, which leaves it as it was. -/
theorem addHlAndPairSteps : Obligations.AddHlAndPairSteps := by
  intro i s p
  refine ⟨fun e => ⟨encode_of_shape e, ?_⟩, fun e => ⟨encode_of_shape e, ?_⟩, fun e => ⟨encode_of_shape e, ?_⟩⟩
  · exact waitsThen_one_of_bind (exec_of_shape e s) fun t same => by rw [add16_eq, same.hl, same.pair p, same.flags]
  · exact waitsThen_one_of_bind (exec_of_shape e s) fun t same => by rw [same.pair p]
  · exact waitsThen_one_of_bind (exec_of_shape e s) fun t same => by rw [same.pair p]

/-- Settles O19: the sum is `addE8` of SP, and the platform gives the number of cycles of the second. -/
theorem signedStackAdds : Obligations.SignedStackAdds := by
  intro i s e sum flags
  refine ⟨fun h => ⟨encode_of_shape h, ?_⟩, fun h => ⟨encode_of_shape h, ?_⟩⟩
  · exact waitsThen_of_bind (exec_of_shape h s) fun t _ => by rw [addE8_eq]
  · have waits (n : Nat) (hn : ldhlInternalCycles s.cfg = n) :
        WaitsThen n s (exec i s) fun t => { t.setHl sum with flags := flags } := by
      subst hn
      exact waitsThen_of_bind (exec_of_shape h s) fun t _ => by rw [addE8_eq]
    exact ⟨fun one => waits 1 (by rw [ldhlInternalCycles, one]), fun two => waits 2 (by rw [ldhlInternalCycles, two])⟩

/-! ### Rotates and shifts -/

theorem rotCb_eq (op : RotOp) (v : Byte) (f : Flags) : rotCb op v f =
    (rotated op v f.c, { z := decide (rotated op v f.c = 0), n := false, h := false, c := rotatedOut op v }) := by
  simp only [rotCb, rot_eq, beq_eq_decide]

/-- The four operations with an accumulator row (R258 to R261). -/
theorem rotAcc_op_mem {i : Instr} {op : RotOp} (h : i.shape = .rotAcc op) : op ∈ [.rlc, .rrc, .rl, .rr] := by
  cases i <;> cases h <;> decide

/-- Settles O20: Z is cleared without a look at the result. -/
theorem accumulatorRotates : Obligations.AccumulatorRotates := by
  intro i s op h
  refine ⟨rotAcc_op_mem h, encode_of_shape h, ?_⟩
  rw [exec_of_shape h, execShape, rotAccumulator, rotAcc, rot_eq]

/-- Settles O21: both forms are `rotCb`, of the register or of the byte read. -/
theorem cbRotatesAndShifts : Obligations.CbRotatesAndShifts := by
  intro i s op
  refine ⟨fun r h => ⟨encode_of_shape h, ?_⟩, fun h => ⟨encode_of_shape h, ?_⟩⟩
  · rw [exec_of_shape h, execShape, rotReg, rotCb_eq]
  · exact modifiesThen_modifyHl (exec_of_shape h s) fun v => rotCb_eq op v s.flags

end Sys2Proof.Machine
end

section
/-! Control transfer (45_control.md), the stack and the 16-bit loads (46_stack.md): each instruction is one of the
shapes of outcome of Safety.lean. -/

namespace Sys2Proof.Machine

/-! ### Pushes and pops as outcomes -/

theorem bind_ok_self (r : Res Unit) : (r.bind fun _ t => .ok () t) = r := by cases r <;> rfl

theorem bind_assoc {α β γ : Type} (r : Res α) (f : α → State → Res β) (g : β → State → Res γ) :
    (r.bind f).bind g = r.bind fun v s => (f v s).bind g := by cases r <;> rfl

/-- The two writes of a push are at the addresses below the SP it starts from (R320). -/
theorem push16_eq (w : Word) (s : State) : push16 w s =
    (memWrite (s.sp - 1) (hiByte w) { s with sp := s.sp - 1 }).bind fun _ u =>
      memWrite (s.sp - 2) (loByte w) { u with sp := s.sp - 2 } := by
  have below : s.sp - 1 - 1 = s.sp - 2 := by bv_omega
  unfold push16
  cases h : memWrite (s.sp - 1) (hiByte w) { s with sp := s.sp - 1 } with
  | fault k u => simp only [h, bind_fault]
  | ok v u =>
    have sp : u.sp = s.sp - 1 := (memWrite_sameCpu h).sp
    simp only [h, bind_ok, sp, below]

/-- The two reads of a pop are at SP and above it (R321). -/
theorem pop16_eq (s : State) : pop16 s =
    (memRead s.sp s).bind fun lo t =>
      (memRead (s.sp + 1) { t with sp := s.sp + 1 }).bind fun hi u => .ok (hi ++ lo) { u with sp := s.sp + 2 } := by
  have above : s.sp + 1 + 1 = s.sp + 2 := by bv_omega
  unfold pop16
  cases h : memRead s.sp s with
  | fault k t => rfl
  | ok lo t =>
    have sp : t.sp = s.sp := (memRead_sameCpu h).sp
    simp only [bind_ok, sp]
    cases h' : memRead (s.sp + 1) { t with sp := s.sp + 1 } with
    | fault k u => rfl
    | ok hi u =>
      have sp' : u.sp = s.sp + 1 := (memRead_sameCpu h').sp
      simp only [bind_ok, sp', above]

theorem pushesThen_of_bind {w : Word} {s : State} {o : Out} {f g : State → State} {value : State → Word}
    (h : o = ((internal s).bind fun _ t => (push16 (value t) t).bind fun _ u => .ok () (g u)).out)
    (hw : ∀ t, SameCpu s t → value t = w) (hg : ∀ u, g u = f u) : PushesThen w s o f := by
  subst h
  refine ⟨fun t ht => ?_, fun k t ht => by rw [ht]; rfl⟩
  have same := internal_sameCpu ht
  rw [ht, bind_ok, hw t same, push16_eq, same.sp]
  refine ⟨fun u hu => ?_, fun k u hu => by rw [hu]; rfl⟩
  rw [hu, bind_ok]
  exact writesThen_of_bind rfl fun t _ => hg t

theorem popsThen_of_bind {s : State} {o : Out} {rest : Word → State → Res Unit} {F : Word → State → Out → Prop}
    (h : o = ((pop16 s).bind rest).out) (hF : ∀ v t, F v t (rest v t).out) : PopsThen s o F := by
  subst h
  rw [pop16_eq]
  refine ⟨fun lo t ht => ?_, fun k t ht => by rw [ht]; rfl⟩
  rw [ht, bind_ok]
  refine ⟨fun hi u hu => ?_, fun k u hu => by rw [hu]; rfl⟩
  rw [hu, bind_ok, bind_ok]
  exact hF _ _

/-! ### Jumps -/

theorem jumpTo_waits (target : Word) (s : State) : WaitsThen 1 s (jumpTo target s) fun t => { t with pc := target } :=
  waitsThen_one_of_bind rfl fun _ _ => rfl

/-- Settles O24: a jump that is taken is `jumpTo`, and one that is not leaves the state alone. -/
theorem absoluteJumps : Obligations.AbsoluteJumps := by
  intro i s
  refine ⟨⟨rfl, rfl, rfl, rfl⟩, fun nn e => ⟨encode_of_shape e, ?_⟩,
    fun cc nn e => ⟨encode_of_shape e, fun taken => ?_, fun untaken => ?_⟩,
    fun e => ⟨encode_of_shape e, exec_of_shape e s⟩⟩
  · rw [exec_of_shape e]
    exact jumpTo_waits nn s
  · rw [exec_of_shape e, execShape, jumpAbsIf, if_pos taken]
    exact jumpTo_waits nn s
  · rw [exec_of_shape e, execShape, jumpAbsIf, if_neg (by simp [untaken])]

/-- The displacement is a signed integer (R304). -/
theorem relative_eq (pc : Word) (e : Byte) : relative pc e = BitVec.ofInt 16 (pc.toNat + e.toInt) := by
  rw [BitVec.ofInt_add, relative, BitVec.signExtend]
  simp

/-- Settles O25. -/
theorem relativeJumps : Obligations.RelativeJumps := by
  intro i s e taken
  refine ⟨fun h => ⟨encode_of_shape h, ?_⟩, fun cc h => ⟨encode_of_shape h, fun hc => ?_, fun hc => ?_⟩⟩
  · simp only [taken, exec_of_shape h, ← relative_eq]
    exact jumpTo_waits _ s
  · simp only [taken, exec_of_shape h, ← relative_eq, execShape, jumpRelIf, if_pos hc]
    exact jumpTo_waits _ s
  · rw [exec_of_shape h, execShape, jumpRelIf, if_neg (by simp [hc])]

/-! ### Calls and returns -/

theorem callTo_pushes (target : Word) (s : State) :
    PushesThen s.pc s (callTo target s) fun t => { t with pc := target } :=
  pushesThen_of_bind rfl (fun _ same => same.pc) fun _ => rfl

/-- Settles O26. -/
theorem callsAndRestarts : Obligations.CallsAndRestarts := by
  intro i s
  refine ⟨fun nn e => ⟨encode_of_shape e, ?_⟩,
    fun cc nn e => ⟨encode_of_shape e, fun taken => ?_, fun untaken => ?_⟩, fun n e => ⟨encode_of_shape e, ?_⟩⟩
  · rw [exec_of_shape e]
    exact callTo_pushes nn s
  · rw [exec_of_shape e, execShape, callAbsIf, if_pos taken]
    exact callTo_pushes nn s
  · rw [exec_of_shape e, execShape, callAbsIf, if_neg (by simp [untaken])]
  · rw [exec_of_shape e]
    exact callTo_pushes (restartAddr n) s

theorem returnTo_pops (s : State) :
    PopsThen s (returnTo s).out fun v t o => WaitsThen 1 t o fun u => { u with pc := v } :=
  popsThen_of_bind rfl fun _ _ => waitsThen_one_of_bind rfl fun _ _ => rfl

/-- Settles O27: RET cc is an internal cycle before `returnTo`, and RETI sets IME after it. -/
theorem returns : Obligations.Returns := by
  intro i s
  refine ⟨fun e => ⟨encode_of_shape e, ?_⟩,
    fun cc e => ⟨encode_of_shape e, fun taken => ?_, fun untaken => ?_⟩, fun e => ⟨encode_of_shape e, ?_⟩⟩
  · rw [exec_of_shape e]
    exact returnTo_pops s
  · rw [exec_of_shape e, execShape, returnIf]
    simp only [taken, if_true]
    refine ⟨fun t ht => ?_, fun k t ht => by rw [ht]; rfl⟩
    rw [ht, bind_ok]
    exact returnTo_pops t
  · refine waitsThen_one_of_bind (g := fun t => t) ?_ fun _ _ => rfl
    rw [exec_of_shape e, execShape, returnIf]
    simp only [untaken, Bool.false_eq_true, if_false]
  · rw [exec_of_shape e, execShape, returnEnable, returnFromInterrupt, returnTo, bind_assoc]
    exact popsThen_of_bind rfl fun _ _ => waitsThen_one_of_bind (by rw [bind_assoc]; rfl) fun _ _ => rfl

/-! ### PUSH, POP and the loads of SP -/

/-- What POP stores in a pair and reads back: F drops its low nibble (R323, R324). -/
theorem setStackPair_stackPair (q : RegQq) (v : Word) (s : State) :
    (s.setStackPair q v).stackPair q = if q = .af then v &&& 0xFFF0 else v := by
  cases q with
  | bc => exact setBc_bc v s
  | de => exact setDe_de v s
  | hl => exact setHl_hl v s
  | af => exact setAf_af v s

/-- Settles O28: the pair pushed is read after the internal cycle, and POP changes its pair alone. -/
theorem pushAndPop : Obligations.PushAndPop := by
  intro i s
  refine ⟨fun q e => ⟨encode_of_shape e, ?_⟩, fun q e => ⟨encode_of_shape e, ?_⟩⟩
  · refine pushesThen_of_bind (value := State.stackPair q) ?_ (fun _ same => same.stackPair q) fun _ => rfl
    simp only [bind_ok_self]
    exact exec_of_shape e s
  · refine popsThen_of_bind (exec_of_shape e s) fun v t => ⟨t.setStackPair q v, rfl, setStackPair_stackPair q v t, ?_⟩
    cases q <;> rfl

/-- Settles O29: SP is read again after the first write of LD (nn),SP, which leaves it as it was. -/
theorem stackPointerLoads : Obligations.StackPointerLoads := by
  intro i s
  refine ⟨fun e => ⟨encode_of_shape e, ?_⟩, fun nn e => ⟨encode_of_shape e, ?_, ?_⟩,
    fun p nn e => ⟨encode_of_shape e, exec_of_shape e s⟩⟩
  · exact waitsThen_one_of_bind (exec_of_shape e s) fun t same => by rw [same.hl]
  · intro t ht
    refine writesThen_of_bind (g := fun u => u) ?_ fun _ _ => rfl
    rw [exec_of_shape e, execShape, storeSp, ht, bind_ok, (memWrite_sameCpu ht).sp, bind_ok_self]
  · intro k t ht
    rw [exec_of_shape e, execShape, storeSp, ht]
    rfl

end Sys2Proof.Machine
end

section
/-! 8-bit loads (47_loads.md) and system control (48_system.md). -/

namespace Sys2Proof.Machine

/-! ### Loads -/

/-- Settles O30: HL is read before the register changes. -/
theorem registerLoads : Obligations.RegisterLoads := by
  intro i s r
  refine ⟨fun r' e => ⟨encode_of_shape e, exec_of_shape e s⟩, fun n e => ⟨encode_of_shape e, exec_of_shape e s⟩,
    fun e => ⟨encode_of_shape e, readsThen_of_bind (exec_of_shape e s) fun _ _ _ => rfl⟩⟩

theorem loadA_reads (a : Word) (s : State) : ReadsThen a s (loadA a s) fun v t => { t with a := v } :=
  readsThen_of_bind rfl fun _ _ _ => rfl

theorem storeByte_writes (a : Word) (v : Byte) (s : State) : WritesThen a v s (storeByte a v s) fun t => t :=
  writesThen_of_bind (by rw [bind_ok_self]; rfl) fun _ _ => rfl

/-- Settles O31: each of the six is one load of A or one stored byte. -/
theorem indirectLoadsAndStores : Obligations.IndirectLoadsAndStores := by
  intro i s
  refine ⟨fun r e => ⟨?_, ?_⟩, fun n e => ⟨encode_of_shape e, ?_⟩, fun e => ⟨encode_of_shape e, ?_⟩,
    fun e => ⟨encode_of_shape e, ?_⟩, fun e => ⟨encode_of_shape e, ?_⟩, fun e => ⟨encode_of_shape e, ?_⟩⟩
  · exact encode_of_shape e
  · rw [exec_of_shape e]; exact storeByte_writes s.hl (s.reg r) s
  · rw [exec_of_shape e]; exact storeByte_writes s.hl n s
  · rw [exec_of_shape e]; exact loadA_reads s.bc s
  · rw [exec_of_shape e]; exact loadA_reads s.de s
  · rw [exec_of_shape e]; exact storeByte_writes s.bc s.a s
  · rw [exec_of_shape e]; exact storeByte_writes s.de s.a s

/-- Settles O32: HL is written after the access, with a value made before it. -/
theorem steppingLoadsAndStores : Obligations.SteppingLoadsAndStores := by
  intro i s
  refine ⟨fun e => ⟨encode_of_shape e, ?_⟩, fun e => ⟨encode_of_shape e, ?_⟩, fun e => ⟨encode_of_shape e, ?_⟩,
    fun e => ⟨encode_of_shape e, ?_⟩⟩
  · exact readsThen_of_bind (exec_of_shape e s) fun _ _ _ => rfl
  · exact readsThen_of_bind (exec_of_shape e s) fun _ _ _ => rfl
  · exact writesThen_of_bind (exec_of_shape e s) fun _ _ => rfl
  · exact writesThen_of_bind (exec_of_shape e s) fun _ _ => rfl

/-- An address of the high page has the high byte 0xFF (R124). -/
theorem highPage_eq_append (n : Byte) : highPage n = 0xFF#8 ++ n := by
  revert n; decide

/-- Settles O33. -/
theorem absoluteAndHighPageLoads : Obligations.AbsoluteAndHighPageLoads := by
  intro i s
  simp only [← highPage_eq_append]
  refine ⟨fun nn e => ⟨encode_of_shape e, ?_⟩, fun nn e => ⟨encode_of_shape e, ?_⟩,
    fun n e => ⟨encode_of_shape e, ?_⟩, fun n e => ⟨encode_of_shape e, ?_⟩, fun e => ⟨encode_of_shape e, ?_⟩,
    fun e => ⟨encode_of_shape e, ?_⟩⟩
  · rw [exec_of_shape e]; exact loadA_reads nn s
  · rw [exec_of_shape e]; exact storeByte_writes nn s.a s
  · rw [exec_of_shape e]; exact loadA_reads (highPage n) s
  · rw [exec_of_shape e]; exact storeByte_writes (highPage n) s.a s
  · rw [exec_of_shape e]; exact loadA_reads (highPage s.c) s
  · rw [exec_of_shape e]; exact storeByte_writes (highPage s.c) s.a s

/-! ### System control -/

/-- An enabled request is one of the five sources (R42). -/
theorem pending_iff (s : State) : pending s = true ↔ s.ie.setWidth 5 &&& s.if5 ≠ 0 := by
  simp [pending, enabledRequests]

/-- Settles O34: the two tests of HALT. -/
theorem haltEntersItsState : Obligations.HaltEntersItsState := by
  intro i s e
  rw [exec_of_shape e, execShape, haltCpu]
  refine ⟨encode_of_shape e, fun ime => by rw [if_pos ime], fun ime none => ?_, fun ime some => ?_⟩
  · have idle : pending s = false := by simpa [none] using pending_iff s
    simp [ime, idle]
  · have waiting : pending s = true := (pending_iff s).mpr some
    simp [ime, waiting]

/-- Settles O35. -/
theorem nopDiEiStop : Obligations.NopDiEiStop := by
  intro i s
  refine ⟨fun e => ⟨encode_of_shape e, exec_of_shape e s⟩, fun e => ⟨encode_of_shape e, exec_of_shape e s⟩,
    fun e => ⟨encode_of_shape e, fun ime => ?_, fun ime => ?_⟩, fun e => ⟨encode_of_shape e, exec_of_shape e s⟩⟩
  · rw [exec_of_shape e, execShape, enableInterrupts, if_neg (by simp [ime])]
  · rw [exec_of_shape e, execShape, enableInterrupts, if_pos ime]

/-- Settles O36: the fields of the fetched opcode select the instruction of its row. -/
theorem cbPrefixRunsTheCbRow : Obligations.CbPrefixRunsTheCbRow := by
  have meaning (s : State) : exec .cbPrefix s = cbPrefix s := exec_of_shape rfl s
  refine ⟨fun s t c h => ?_, fun s t k h => ?_, fun _ _ _ _ h => fetchInstr_wellFormed h⟩
  · rw [meaning, cbPrefix, h]
    exact runCbOpcode_eq c t
  · rw [meaning, cbPrefix, h]
    rfl

end Sys2Proof.Machine
end

section
/-! The bus (20_memory.md): the router by owner, the CPU's own registers, RAM, and the DMA policy. -/

namespace Sys2Proof.Machine

/-! ### The router by the owner of the address (R73) -/

section
variable {s : State} {a : Word}

theorem routerRead_unmapped (h : deviceMap s.cfg a = none) :
    routerRead a s = .fault (.unmappedAddress a .read) s := by simp only [routerRead, peek, h]

theorem routerWrite_unmapped (v : Byte) (h : deviceMap s.cfg a = none) :
    routerWrite a v s = .fault (.unmappedAddress a .write) s := by simp only [routerWrite, poke, h]

theorem routerRead_cpu (h : deviceMap s.cfg a = some .cpu) : routerRead a s = .ok (cpuRegRead a s) s := by
  simp only [routerRead, peek, afterRead, h]

theorem routerWrite_cpu (v : Byte) (h : deviceMap s.cfg a = some .cpu) :
    routerWrite a v s = .ok () (cpuRegWrite a v s) := by simp only [routerWrite, poke, h]

theorem routerRead_ram (h : deviceMap s.cfg a = some .ram) : routerRead a s = .ok (ramByte a s) s := by
  simp only [routerRead, peek, afterRead, ramByte, h]

theorem routerWrite_ram (v : Byte) (h : deviceMap s.cfg a = some .ram) :
    routerWrite a v s = .ok () { s with mem := Mem.write s.mem a.toNat v } := by simp only [routerWrite, poke, h]

theorem routerRead_peripheral (h : deviceMap s.cfg a = some .peripheral) :
    routerRead a s = .ok (Config.deviceRead s.periph s.dmaActive a)
      { s with periph := Config.deviceAfterRead s.periph s.dmaActive a } := by
  simp only [routerRead, peek, afterRead, h]

theorem routerWrite_peripheral (v : Byte) (h : deviceMap s.cfg a = some .peripheral) :
    routerWrite a v s = .ok () { s with periph := Config.deviceAfterWrite s.periph s.dmaActive a v } := by
  simp only [routerWrite, poke, h]

end

/-- RAM after a write (R90). -/
theorem ramByte_write {s : State} (hm : Memory.wf s.mem = true) (a x : Word) (v : Byte) :
    ramByte x { s with mem := Mem.write s.mem a.toNat v } = if x = a then v else ramByte x s := by
  by_cases h : x = a
  · rw [if_pos h, h]
    exact read_write_same a.toNat v hm
  · rw [if_neg h]
    exact read_write_other s.mem v fun e => h (BitVec.eq_of_toNat_eq e)

/-- Settles O38: the owner of the address says which lemma of the router applies, and an unmapped access is at the
front of its cycle. -/
theorem routerAccess : Obligations.RouterAccess := by
  intro s a v
  refine ⟨fun h => ⟨routerRead_unmapped h, routerWrite_unmapped v h⟩, fun h allowed => ⟨?_, ?_⟩,
    fun h => ⟨routerRead_cpu h, routerWrite_cpu v h⟩,
    fun h => ⟨routerRead_ram h, _, routerWrite_ram v h, rfl, fun wf x => ramByte_write wf a x v⟩,
    fun h => ⟨⟨_, _, routerRead_peripheral h, rfl⟩, _, routerWrite_peripheral v h, rfl⟩⟩
  · rw [memRead, busRead, if_pos allowed, routerRead_unmapped h]
    rfl
  · rw [memWrite, busWrite, if_pos allowed, routerWrite_unmapped v h]
    rfl

/-! ### The CPU's own registers (R75, R85 to R87) -/

/-- The CPU owns its three addresses on every platform, and no other (R75). -/
theorem deviceMap_eq_cpu_iff (cfg : Config) (a : Word) :
    deviceMap cfg a = some .cpu ↔ a = ifAddr ∨ a = dmaAddr ∨ a = ieAddr := by
  have other (k : DeviceKind) : ownerOf k ≠ .cpu := by cases k <;> exact nofun
  unfold deviceMap
  split
  · simp [*]
  · simp [*]

/-- Settles O39. -/
theorem ieAndDmaRegisters : Obligations.IeAndDmaRegisters := by
  intro s v
  have hif : deviceMap s.cfg 0xFF0F = some .cpu := (deviceMap_eq_cpu_iff _ _).mpr (.inl rfl)
  have hdma : deviceMap s.cfg 0xFF46 = some .cpu := (deviceMap_eq_cpu_iff _ _).mpr (.inr (.inl rfl))
  have hie : deviceMap s.cfg 0xFFFF = some .cpu := (deviceMap_eq_cpu_iff _ _).mpr (.inr (.inr rfl))
  exact ⟨hif, hdma, hie, fun a => (deviceMap_eq_cpu_iff s.cfg a).mp, routerRead_cpu hie, routerWrite_cpu v hie,
    routerRead_cpu hdma, routerWrite_cpu v hdma⟩

/-- IF reads under three ones (R87). -/
theorem ifByte_eq_append (f : BitVec 5) : 0xE0 ||| f.setWidth 8 = 0b111#3 ++ f := by
  revert f; decide

/-- A source is one bit of IF (R41). -/
theorem getLsbD_sourceBit (n : Fin 5) {k : Nat} (hk : k < 5) : (sourceBit n).getLsbD k = decide (k = n.val) := by
  revert n
  interval_cases k <;> decide

/-- A callback that requests in every call makes a cycle request (R9, R385). -/
theorem internal_of_requesting {s t : State} {n : Fin 5} (h : s.ext = [])
    (loop : s.cfg.callback.after = .loop [[.request n]]) (hd : dmaStep s = .ok () t) :
    internal s = .ok () (requestInterrupt n { t with extCalls := t.extCalls + 1 }) := by
  obtain ⟨ext, calls, cfg⟩ := ((callback_closed s).dmaStep ⟨rfl, rfl, rfl⟩).of_ok hd
  have events : loopEvents [[.request n]] t.extCalls = [.request n] := by simp [loopEvents, Nat.mod_one]
  rw [internal, cycle, hd, bind_ok, extCycle_loop (ext.trans h) (by rw [cfg, loop]), events]
  rfl

/-- Settles O40. -/
theorem interruptFlagRegister : Obligations.InterruptFlagRegister := by
  intro s v n
  have owned : deviceMap s.cfg 0xFF0F = some .cpu := (deviceMap_eq_cpu_iff _ _).mpr (.inl rfl)
  refine ⟨?_, routerWrite_cpu v owned, rfl, fun k hk => ?_, fun h loop t hd => internal_of_requesting h loop hd⟩
  · rw [← ifByte_eq_append]
    exact routerRead_cpu owned
  · rw [requestInterrupt_if5, BitVec.getLsbD_or, getLsbD_sourceBit n hk]

/-! ### RAM on a quiet bus -/

theorem Quiet.memWrite_ram {s : State} {a : Word} (q : Quiet s) (v : Byte) (ha : deviceMap s.cfg a = some .ram) :
    ∃ t, memWrite a v s = .ok () t ∧ t = { s with mem := Mem.write s.mem a.toNat v } ∧ Quiet t :=
  ⟨_, memWrite_quiet_ram v q ha, rfl, q.congr rfl rfl rfl rfl⟩

/-- Settles O41. -/
theorem readAfterWrite : Obligations.ReadAfterWrite := by
  intro s a v q wf ha
  obtain ⟨t, write, rfl, qt⟩ := q.memWrite_ram v ha
  have read (b : Word) : ramByte b { s with mem := Mem.write s.mem a.toNat v } = if b = a then v else ramByte b s :=
    ramByte_write wf a b v
  refine ⟨_, write, qt, wf_write a v wf, ?_, fun b hb hr => ⟨ramByte b s, memRead_quiet_ram q hr, ?_⟩, ?_⟩
  · rw [memRead_quiet_ram qt ha, read, if_pos rfl]
  · rw [memRead_quiet_ram qt hr, read, if_neg hb]
  · rw [fetchByte_quiet (s := { ({ s with mem := Mem.write s.mem a.toNat v } : State) with pc := a })
      (qt.congr rfl rfl rfl rfl) ha]
    exact congrArg (Res.ok · _) ((read a).trans (if_pos rfl))

/-- Settles O45: the two bytes of the push are at different addresses, so the second write keeps the first. -/
theorem popUndoesPush : Obligations.PopUndoesPush := by
  intro s v q wf high low
  have ne : s.sp - 1 ≠ s.sp - 2 := by bv_omega
  have above : s.sp - 2 + 1 = s.sp - 1 := by bv_omega
  have back : s.sp - 2 + 2 = s.sp := by bv_omega
  have wf1 := wf_write (s.sp - 1) (hiByte v) wf
  obtain ⟨t, push, ht⟩ : ∃ t, push16 v s = .ok () t ∧ t = _ := ⟨_, push16_quiet v q high low, rfl⟩
  have qt : Quiet t := ht ▸ q.congr rfl rfl rfl rfl
  have sp : t.sp = s.sp - 2 := by rw [ht]
  have cfg : t.cfg = s.cfg := by rw [ht]
  have lowByte : ramByte (s.sp - 2) t = loByte v := by
    rw [ht]
    exact read_write_same _ _ wf1
  have highByte : ramByte (s.sp - 1) t = hiByte v := by
    rw [ht]
    exact (read_write_other _ _ fun e => ne (BitVec.eq_of_toNat_eq e)).trans (read_write_same _ _ wf)
  refine ⟨t, push, sp, sp ▸ lowByte, by rw [sp, above]; exact highByte, ?_⟩
  rw [pop16_eq, sp, above, back, memRead_quiet_ram qt (cfg ▸ low), bind_ok,
    memRead_quiet_ram (s := { t with sp := s.sp - 1 }) (qt.congr rfl rfl rfl rfl) (cfg ▸ high), bind_ok, lowByte]
  have kept : ramByte (s.sp - 1) { t with sp := s.sp - 1 } = hiByte v := highByte
  rw [kept, hiByte_loByte]

/-! ### The CPU's accesses and the other two agents of a cycle -/

/-- Settles O42: what the policy blocks does not reach the router. -/
theorem dmaPolicyBlocksTheCpu : Obligations.DmaPolicyBlocksTheCpu := by
  intro s a v active ha unreachable
  have ne : a ≠ dmaAddr := ha
  have blocked : cpuMayAccess a s = false := by simp [cpuMayAccess, active, ne, unreachable]
  refine ⟨fun t ht => ?_, fun lost => ?_, fun taken => ?_⟩
  · rw [memRead, busRead, if_neg (by simp [blocked]), bind_ok, ht, bind_ok]
  · rw [memWrite, busWrite, if_neg (by simp [blocked]), if_neg (by simp [lost]), bind_ok]
  · rw [memWrite, busWrite, if_neg (by simp [blocked]), if_pos taken]

/-- Settles O43. -/
theorem cyclesLeaveTheCpuAlone : Obligations.CyclesLeaveTheCpuAlone := fun s _ c =>
  ⟨fun h => ⟨internal_sameCpu h, cycle_called h⟩, fun _ _ h => ⟨memRead_sameCpu h, memRead_called h⟩,
    fun _ _ h => ⟨memWrite_sameCpu h, memWrite_called h⟩, cycle_blind c s, fun a => memRead_blind a c s,
    fun a v => memWrite_blind a v c s⟩

end Sys2Proof.Machine
end

section
/-! The tick (40_engine.md, 60_exceptions.md section 2): the fetch on a quiet bus, the dispatch checks, the dispatch,
and the ticks that wait. -/

namespace Sys2Proof.Machine

/-! ### The fetch of one instruction on a quiet bus -/

/-- The operand fetches read what the decoder reads, of the bytes at PC (R157). -/
theorem fetchOperands_quiet {s : State} {op : Byte} {i : Instr} {rest : List Byte} (q : Quiet s)
    (dec : decode [op, ramByte s.pc s, ramByte (s.pc + 1) s] = .ok (i, rest))
    (ram : ∀ k : Nat, k < i.fetchedBytes - 1 → deviceMap s.cfg (s.pc + BitVec.ofNat 16 k) = some .ram) :
    fetchOperands (opEntry op) s = .ok i { s with pc := s.pc + BitVec.ofNat 16 (i.fetchedBytes - 1) } := by
  have stays : s.pc + BitVec.ofNat 16 0 = s.pc := by simp
  have row := row_ok op
  simp only [decode] at dec
  revert dec row
  generalize opEntry op = entry
  cases entry with
  | op j =>
    rintro ⟨⟩ ⟨-, -, len, -⟩
    rw [len, stays]
    rfl
  | opN f | opE f =>
    rintro ⟨⟩ row
    obtain ⟨-, -, len, -⟩ := row (ramByte s.pc s)
    rw [len] at ram ⊢
    rw [fetchOperands, fetchByte_quiet q (stays ▸ ram 0 (by decide)), bind_ok]
    rfl
  | opNn f =>
    rintro ⟨⟩ row
    obtain ⟨-, -, len, -⟩ := row (ramByte (s.pc + 1) s ++ ramByte s.pc s)
    rw [len] at ram ⊢
    rw [fetchOperands, fetchWord_quiet q (stays ▸ ram 0 (by decide)) (ram 1 (by decide)), bind_ok]
    rfl
  | cb =>
    rintro ⟨⟩ -
    obtain ⟨-, -, len, -⟩ := cb_ok (ramByte s.pc s)
    rw [len] at ram ⊢
    rw [fetchOperands, fetchByte_quiet q (stays ▸ ram 0 (by decide)), bind_ok]
    rfl
  | stop =>
    rintro ⟨⟩ -
    rw [show Instr.stop.fetchedBytes - 1 = 0 from rfl, stays]
    rfl

/-- Where the operands of an instruction are read: past the opcode, or with the HALT bug at the opcode again (R155,
R156). -/
def operandPc (bug : Bool) (s : State) : Word := if bug then s.pc else s.pc + 1

theorem fetchInstr_quiet {s : State} {bug : Bool} {i : Instr} {rest : List Byte} (q : Quiet s)
    (dec : decode [ramByte s.pc s, ramByte (operandPc bug s) s, ramByte (operandPc bug s + 1) s] = .ok (i, rest))
    (first : deviceMap s.cfg s.pc = some .ram)
    (ram : ∀ k : Nat, k < i.fetchedBytes - 1 →
      deviceMap s.cfg (operandPc bug s + BitVec.ofNat 16 k) = some .ram) :
    fetchInstr bug s = .ok i { s with
      ime := s.ime || s.imePending, imePending := false, opPc := s.pc
      runState := if bug then .normal else s.runState
      pc := operandPc bug s + BitVec.ofNat 16 (i.fetchedBytes - 1) } := by
  have begun : Quiet (beginInstruction s) := q.congr rfl rfl rfl rfl
  cases bug with
  | false =>
    rw [fetchInstr, fetchOpcode, if_neg (by decide), fetchByte_quiet begun first, bind_ok]
    exact fetchOperands_quiet (s := { beginInstruction s with pc := s.pc + 1 }) (q.congr rfl rfl rfl rfl) dec ram
  | true =>
    rw [fetchInstr, fetchOpcode, if_pos rfl, memRead_quiet_ram begun (a := (beginInstruction s).pc) first, bind_ok]
    exact fetchOperands_quiet (s := { beginInstruction s with runState := .normal }) (q.congr rfl rfl rfl rfl) dec ram

/-- How many bytes the fetch of an instruction of a shape reads: its encoding, less STOP's ignored byte (R120). -/
def fetchLength (sh : Shape) : Nat :=
  match sh with
  | .stop => 1
  | _ => (fieldEncoding sh).length

theorem fetchedBytes_eq (i : Instr) : i.fetchedBytes = fetchLength i.shape := by
  rw [Instr.fetchedBytes, encode_eq]
  cases i.shape <;> rfl

theorem fetchLength_pos (sh : Shape) : 1 ≤ fetchLength sh := by
  cases sh <;> exact Nat.succ_pos _

theorem fetchedBytes_pos (i : Instr) : 1 ≤ i.fetchedBytes := fetchedBytes_eq i ▸ fetchLength_pos i.shape

/-! ### The step -/

theorem stepInstruction_ok {bug : Bool} {s t : State} {i : Instr} (h : fetchInstr bug s = .ok i t) :
    stepInstruction exec bug s = exec i t := by rw [stepInstruction, h]

theorem stepInstruction_fault {bug : Bool} {s t : State} {k : FaultKind} (h : fetchInstr bug s = .fault k t) :
    stepInstruction exec bug s = .fault (Fault.of k t) := by
  rw [stepInstruction, h]
  rfl

section
variable {s t : State}

theorem step_normal (f : s.fault = none) (d : dispatchable s = false) (r : s.runState = .normal) :
    step s = endOfTick (stepInstruction exec false s) := by rw [step_running f d, tickBody, r]

theorem step_haltedBug (f : s.fault = none) (d : dispatchable s = false) (r : s.runState = .haltedBug) :
    step s = endOfTick (stepInstruction exec true s) := by rw [step_running f d, tickBody, r]

/-- Settles O46: on a quiet bus the fetch reads what the decoder reads. -/
theorem stepRunsDecodedInstruction : Obligations.StepRunsDecodedInstruction := by
  intro s f d r
  refine ⟨fun i t h => ?_, fun k t h => ?_, fun i rest q dec ram => ?_⟩
  · rw [step_normal f d r, stepInstruction_ok h]
  · rw [step_normal f d r, stepInstruction_fault h]
    rfl
  · have pos := fetchedBytes_pos i
    have next (n : Nat) : s.pc + 1 + BitVec.ofNat 16 n = s.pc + BitVec.ofNat 16 (n + 1) := by
      rw [BitVec.ofNat_add, BitVec.add_assoc, BitVec.add_comm 1]
      rfl
    have third : s.pc + 1 + 1 = s.pc + 2 := next 1
    have fetch := fetchInstr_quiet (bug := false) q (by rw [operandPc, if_neg (by decide), third]; exact dec)
      (by simpa using ram 0 pos) fun k hk => next k ▸ ram (k + 1) (by omega)
    rw [step_normal f d r, stepInstruction_ok fetch, operandPc, if_neg (by decide), if_neg (by decide), next,
      Nat.sub_add_cancel pos]

/-- Settles O47: with the bug the operands start at the opcode's own address. -/
theorem haltBugRepeatsAByte : Obligations.HaltBugRepeatsAByte := by
  intro s i rest f d r q dec ram
  have fetch := fetchInstr_quiet (bug := true) q dec (by simpa using ram 0 (by omega)) fun k hk => ram k (by omega)
  rw [step_haltedBug f d r, stepInstruction_ok fetch]
  rfl

/-! ### The dispatch checks -/

theorem endOfTick_next (t : State) :
    endOfTick (.next t) = if dispatchable t = true then (dispatch t).out else .next t := rfl

/-- Settles O48. -/
theorem dispatchChecks : Obligations.DispatchChecks :=
  ⟨fun _ => step_faulted, fun s f ime request => step_dispatching f ((dispatchable_iff s).mpr ⟨ime, request⟩),
    fun t => by simp only [endOfTick_next, dispatchable_iff]⟩

theorem endOfTick_of_not_dispatchable (h : dispatchable t = false) : endOfTick (.next t) = .next t := by
  rw [endOfTick_next, if_neg (by simp [h])]

/-! ### Taking an interrupt -/

/-- The lowest enabled request is the one taken (R387). -/
theorem lowestSource_eq {p : BitVec 5} {n : Fin 5} (set : p.getLsbD n = true)
    (lowest : ∀ j : Fin 5, j < n → p.getLsbD j = false) : lowestSource p = n := by
  revert p n
  decide

/-- Taking a request clears its bit and no other (R389). -/
theorem getLsbD_and_not_sourceBit (f : BitVec 5) (n j : Fin 5) :
    (f &&& ~~~sourceBit n).getLsbD j = (f.getLsbD j && decide (j ≠ n)) := by
  rw [BitVec.getLsbD_and, BitVec.getLsbD_not, getLsbD_sourceBit n j.isLt]
  simp [Fin.ext_iff]

theorem internal_bind_quiet (q : Quiet s) (f : Unit → State → Res Unit) : (internal s).bind f = f () s := by
  rw [internal, cycle_quiet q, bind_ok]

/-- On a quiet bus a dispatch is the push of PC and the jump (R389). -/
theorem dispatch_quiet (q : Quiet s) (high : deviceMap s.cfg (s.sp - 1) = some .ram)
    (low : deviceMap s.cfg (s.sp - 2) = some .ram) :
    dispatch s = .ok () { s with
      ime := false, if5 := s.if5 &&& ~~~sourceBit (lowestSource (enabledRequests s)), runState := .normal
      sp := s.sp - 2
      mem := Mem.write (Mem.write s.mem (s.sp - 1).toNat (hiByte s.pc)) (s.sp - 2).toNat (loByte s.pc)
      pc := vectorAddr (lowestSource (enabledRequests s)) } := by
  have accepted : Quiet (acceptInterrupt (lowestSource (enabledRequests s)) s) := q.congr rfl rfl rfl rfl
  simp only [dispatch, internal_bind_quiet accepted]
  rw [push16_quiet _ accepted high low, bind_ok]
  refine (internal_bind_quiet ?_ _).trans rfl
  exact accepted.congr rfl rfl rfl rfl

/-- Settles O49. -/
theorem dispatchTakesTheLowestRequest : Obligations.DispatchTakesTheLowestRequest := by
  intro s n set lowest
  have source : lowestSource (enabledRequests s) = n := lowestSource_eq set lowest
  refine ⟨fun t h => ⟨?_, dispatch_called h⟩, fun q high low =>
    ⟨s.if5 &&& ~~~sourceBit n, getLsbD_and_not_sourceBit s.if5 n, ?_⟩⟩
  · have same := dispatch_cpu h
    rwa [source] at same
  · rw [dispatch_quiet q high low, source]
    rfl

/-! ### Waiting -/

/-- Whether a waiting tick leaves HALTED or STOPPED (R161, R162). -/
theorem tickBody_waking (request : pending s = true)
    (r : s.runState = .halted ∨ s.runState = .stopped ∧ s.cfg.stopWake = .pending) :
    tickBody exec s = stepInstruction exec false (wake s) := by
  rcases r with r | ⟨r, may⟩
  · rw [tickBody, r]
    exact if_pos request
  · rw [tickBody, r]
    exact if_pos ⟨may, request⟩

theorem tickBody_idle (r : s.runState = .halted ∨ s.runState = .stopped)
    (idle : pending s = false ∨ s.runState = .stopped ∧ s.cfg.stopWake = .never) :
    tickBody exec s = (internal s).out := by
  rcases r with r | r
  · have none : pending s = false := by simpa [r] using idle
    rw [tickBody, r]
    exact if_neg (by simp [none])
  · rw [tickBody, r]
    refine if_neg fun ⟨may, request⟩ => ?_
    simp [request, may] at idle

/-- Settles O50. -/
theorem waitingTicks : Obligations.WaitingTicks := by
  intro s f d r
  refine ⟨fun request may => ?_, fun idle => ?_⟩
  · have waking : s.runState = .halted ∨ s.runState = .stopped ∧ s.cfg.stopWake = .pending := by grind
    rw [step_running f d, tickBody_waking request waking]
    exact (step_normal (s := wake s) f d rfl).symm
  · have tick : step s = endOfTick (internal s).out := by rw [step_running f d, tickBody_idle r idle]
    refine ⟨tick, fun t h => ?_, fun q => ?_⟩
    · have same := internal_sameCpu h
      exact ⟨same.pc, same.runState, cycle_called h⟩
    · rw [tick, internal, cycle_quiet q]
      exact endOfTick_of_not_dispatchable d

theorem not_dispatchable (h : s.ime = false) : dispatchable s = false := by rw [dispatchable, h, Bool.false_and]

/-- Settles O51: IME is still clear at both checks of EI's tick and at the start of the next, whose fetch sets it. -/
theorem eiTakesEffectOneInstructionLate : Obligations.EiTakesEffectOneInstructionLate := by
  intro s t f r ime noDelay fetch
  obtain ⟨pc, same⟩ := fetchInstr_cpu fetch
  have ime' : t.ime = false := by simpa [ime, noDelay] using same.ime
  have f' : t.fault = none := same.fault.trans f
  have r' : t.runState = .normal := same.runState.trans r
  have ei : exec .ei t = .next { t with imePending := true } := by
    show Host.Outcome.next (if t.ime then t else _) = _
    rw [if_neg (by simp [ime'])]
  refine ⟨?_, fun i u h => ?_⟩
  · rw [step_normal f (not_dispatchable ime) r, stepInstruction_ok fetch, ei]
    exact endOfTick_of_not_dispatchable (not_dispatchable ime')
  · obtain ⟨pc', next⟩ := fetchInstr_cpu h
    refine ⟨by simpa using next.ime, next.imePending, ?_⟩
    rw [step_normal (s := { t with imePending := true }) f' (not_dispatchable ime') r', stepInstruction_ok h]

end

end Sys2Proof.Machine
end

section
/-! The OAM transfer (20_memory.md section 6): three cycles of delay, one that starts it, and 160 that copy. -/

namespace Sys2Proof.Machine

/-! ### The addresses of a transfer (R95, R97) -/

/-- The address byte `k` of a transfer from `page` is read from. -/
def transferSource (page : Byte) (k : Nat) : Word := (page ++ 0#8) + BitVec.ofNat 16 k

/-- The address of OAM byte `k` is written to. -/
def oamAddr (k : Nat) : Word := 0xFE00 + BitVec.ofNat 16 k

theorem oamAddr_toNat {k : Nat} (h : k < 160) : (oamAddr k).toNat = 0xFE00 + k := by
  simp [oamAddr]
  omega

theorem oamAddr_inj {j k : Nat} (hj : j < 160) (hk : k < 160) : oamAddr j = oamAddr k ↔ j = k := by
  rw [← BitVec.toNat_inj, oamAddr_toNat hj, oamAddr_toNat hk, Nat.add_left_cancel_iff]

theorem transferSource_toNat (page : Byte) {k : Nat} (h : k < 160) :
    (transferSource page k).toNat = page.toNat * 256 + k := by
  have := page.isLt
  have first : (page ++ 0#8 : Word).toNat = page.toNat * 256 := by
    refine (BitVec.toNat_append (m := 8) page 0#8).trans ?_
    simp [Nat.shiftLeft_eq]
  simp [transferSource, first]
  omega

/-- A source byte is an OAM byte only where the transfer copies OAM onto itself. -/
theorem eq_of_transferSource_eq_oamAddr {page : Byte} {j k : Nat} (hj : j < 160) (hk : k < 160)
    (h : transferSource page j = oamAddr k) : j = k := by
  rw [← BitVec.toNat_inj, transferSource_toNat page hj, oamAddr_toNat hk] at h
  omega

/-! ### The machine during a transfer -/

/-- `t` is `n` cycles after a write of `page` to the DMA register of `s`. -/
structure Transfer (s : State) (page : Byte) (n : Nat) (t : State) : Prop where
  cfg : t.cfg = s.cfg
  ext : t.ext = []
  wf : Memory.wf t.mem = true
  reg : t.dmaReg = page
  waits : n < 4 → t.dmaActive = false ∧ t.dmaDelay = 4 - n
  copies : 4 ≤ n → t.dmaDelay = 0 ∧ t.dmaSrc = page ∧ t.dmaIndex = n - 4 ∧ (t.dmaActive = true ↔ n < 164)
  oam : ∀ k, k < 160 →
    ramByte (oamAddr k) t = if k + 4 < n then ramByte (transferSource page k) s else ramByte (oamAddr k) s
  other : ∀ a, (∀ k, k < 160 → a ≠ oamAddr k) → ramByte a t = ramByte a s

namespace Transfer

variable {s t : State} {page : Byte} {n : Nat}

theorem armed (q : Quiet s) (wf : Memory.wf s.mem = true) :
    Transfer s page 0 { s with dmaReg := page, dmaDelay := 4 } where
  cfg := rfl
  ext := q.noCallback
  wf := wf
  reg := rfl
  waits _ := ⟨q.idle, rfl⟩
  copies h := absurd h (by decide)
  oam _ _ := rfl
  other _ _ := rfl

/-- The byte copied next has not been overwritten. -/
theorem source_kept (h : Transfer s page (n + 4) t) (hn : n < 160) :
    ramByte (transferSource page n) t = ramByte (transferSource page n) s := by
  by_cases inOam : ∃ k, k < 160 ∧ transferSource page n = oamAddr k
  · obtain ⟨k, hk, e⟩ := inOam
    obtain rfl := eq_of_transferSource_eq_oamAddr hn hk e
    rw [e, h.oam n hk, if_neg (Nat.lt_irrefl _)]
  · exact h.other _ fun k hk e => inOam ⟨k, hk, e⟩

theorem waiting (h : Transfer s page n t) (q : Quiet s) (hn : n < 3) :
    ∃ u, internal t = .ok () u ∧ Transfer s page (n + 1) u := by
  obtain ⟨idle, delay⟩ := h.waits (by omega)
  refine ⟨_, cycle_waiting idle h.ext (h.cfg ▸ q.noop) (by omega), ?_⟩
  exact
    { h with
      waits := fun _ => ⟨idle, by show t.dmaDelay - 1 = _; omega⟩
      copies := fun _ => by omega
      oam := fun k hk => by
        have kept := h.oam k hk
        rw [if_neg (by omega)] at kept ⊢
        exact kept }

theorem starting (h : Transfer s page 3 t) (q : Quiet s) :
    ∃ u, internal t = .ok () u ∧ Transfer s page 4 u := by
  obtain ⟨idle, delay⟩ := h.waits (by decide)
  refine ⟨_, cycle_starting idle h.ext (h.cfg ▸ q.noop) delay, ?_⟩
  exact
    { h with
      waits := fun lt => absurd lt (by decide)
      copies := fun _ => ⟨rfl, h.reg, rfl, iff_of_true rfl (by decide)⟩
      oam := fun k hk => by
        have kept := h.oam k hk
        rw [if_neg (by omega)] at kept ⊢
        exact kept }

theorem copying (h : Transfer s page (n + 4) t) (q : Quiet s) (hn : n < 160)
    (src : deviceMap s.cfg (transferSource page n) = some .ram) (dst : deviceMap s.cfg (oamAddr n) = some .ram) :
    ∃ u, internal t = .ok () u ∧ Transfer s page (n + 4 + 1) u := by
  obtain ⟨delay, page', index, active⟩ := h.copies (by omega)
  have source : dmaSourceAddr t = transferSource page n := by rw [dmaSourceAddr, page', index]; rfl
  have target : dmaTargetAddr t = oamAddr n := by rw [dmaTargetAddr, index]; rfl
  have cycled := cycle_copying (active.mpr (by omega)) h.ext (h.cfg ▸ q.noop) delay (by rw [source, h.cfg, src])
    (by rw [target, h.cfg, dst])
  rw [source, target, h.source_kept hn] at cycled
  refine ⟨_, cycled, ?_⟩
  have byte (a : Word) : ramByte a (dmaCopied { t with
      mem := Mem.write t.mem (oamAddr n).toNat (ramByte (transferSource page n) s) }) =
      if a = oamAddr n then ramByte (transferSource page n) s else ramByte a t := by
    rw [← ramByte_write h.wf, ramByte, dmaCopied_mem]
    rfl
  refine ⟨by simpa using h.cfg, by simpa using h.ext, by simpa using wf_write _ _ h.wf, by simpa using h.reg,
    fun lt => by omega, fun _ => ⟨by simpa using delay, by simpa using page', ?_⟩, fun k hk => ?_, fun a ha => ?_⟩
  · simp only [dmaCopied, index]
    split
    · exact ⟨by show n + 4 - 4 + 1 = _; omega, by simp; omega⟩
    · exact ⟨by show n + 4 - 4 + 1 = _; omega, iff_of_true (active.mpr (by omega)) (by omega)⟩
  · rw [byte, h.oam k hk]
    by_cases now : k = n
    · rw [if_pos (congrArg oamAddr now), if_pos (by omega), now]
    · rw [if_neg (mt (oamAddr_inj hk hn).mp now)]
      simp only [show k + 4 < n + 4 ↔ k + 4 < n + 4 + 1 by omega]
  · rw [byte, if_neg (ha n hn), h.other a ha]

/-- Each cycle of a transfer does its part (R95, R96). -/
theorem next (h : Transfer s page n t) (q : Quiet s) (hn : n < 164)
    (ram : ∀ k, k < 160 → deviceMap s.cfg (transferSource page k) = some .ram ∧
      deviceMap s.cfg (oamAddr k) = some .ram) : ∃ u, internal t = .ok () u ∧ Transfer s page (n + 1) u := by
  obtain before | rfl | after : n < 3 ∨ n = 3 ∨ 4 ≤ n := by omega
  · exact h.waiting q before
  · exact h.starting q
  · obtain ⟨k, rfl⟩ := Nat.exists_eq_add_of_le' after
    obtain ⟨src, dst⟩ := ram k (by omega)
    exact h.copying q (by omega) src dst

theorem dmaActive_iff (h : Transfer s page n t) : t.dmaActive = true ↔ 4 ≤ n ∧ n < 164 := by
  by_cases started : 4 ≤ n
  · obtain ⟨-, -, -, active⟩ := h.copies started
    rw [active, and_iff_right started]
  · obtain ⟨idle, -⟩ := h.waits (by omega)
    simp [idle, started]

end Transfer

/-! ### Counting the cycles -/

/-- One more internal cycle, after the others. -/
theorem internals_succ (n : Nat) (s : State) : internals (n + 1) s = (internals n s).bind fun _ => internal := by
  induction n generalizing s with
  | zero => exact internals_one s
  | succ n ih =>
    calc internals (n + 2) s
        = (internal s).bind fun _ t => internals (n + 1) t := rfl
      _ = (internal s).bind fun _ t => (internals n t).bind fun _ => internal := by simp only [ih]
      _ = (internals (n + 1) s).bind fun _ => internal := (bind_assoc _ _ _).symm

theorem internals_transfer {s : State} {page : Byte} (q : Quiet s) (wf : Memory.wf s.mem = true)
    (ram : ∀ k, k < 160 → deviceMap s.cfg (transferSource page k) = some .ram ∧
      deviceMap s.cfg (oamAddr k) = some .ram) (n : Nat) (hn : n ≤ 164) :
    ∃ t, internals n { s with dmaReg := page, dmaDelay := 4 } = .ok () t ∧ Transfer s page n t := by
  induction n with
  | zero => exact ⟨_, rfl, .armed q wf⟩
  | succ n ih =>
    obtain ⟨t, before, h⟩ := ih (by omega)
    obtain ⟨u, cycled, h'⟩ := h.next q hn ram
    exact ⟨u, by rw [internals_succ, before, bind_ok, cycled], h'⟩

/-- Settles O44, by induction on the cycles since the write. -/
theorem dmaTransferCopiesAPage : Obligations.DmaTransferCopiesAPage := by
  intro s page q wf ram w write n hn
  have owned : deviceMap s.cfg dmaAddr = some .cpu := (deviceMap_eq_cpu_iff _ _).mpr (.inr (.inl rfl))
  obtain rfl : w = { s with dmaReg := page, dmaDelay := 4 } := by
    have := (routerWrite_cpu page owned).symm.trans write
    cases this
    rfl
  obtain ⟨t, ran, h⟩ := internals_transfer q wf ram n hn
  exact ⟨t, ran, h.dmaActive_iff, h.oam, h.other⟩

end Sys2Proof.Machine
end

section
/-! What an instruction does, in the words of its machine cycles: how many there are, which addresses they write, what
of the CPU they leave alone, and that none of them faults on a platform with no hole. -/

namespace Sys2Proof.Machine

/-! ### The cycles between two states -/

/-- From `s` to `t` the CPU makes `n` machine cycles, whose writes are at the addresses `ws` in this order; between the
cycles it may change its own part of the state. -/
inductive Trace (s : State) : Nat → List Word → State → Prop where
  | start : Trace s 0 [] s
  | cpu {n ws t u} : Trace s n ws t → u = t.withCpu u → Trace s n ws u
  | idle {n ws t u} : Trace s n ws t → internal t = .ok () u → Trace s (n + 1) ws u
  | read {n ws t u a v} : Trace s n ws t → memRead a t = .ok v u → Trace s (n + 1) ws u
  | write {n ws t u a v} : Trace s n ws t → memWrite a v t = .ok () u → Trace s (n + 1) (ws ++ [a]) u

namespace Trace

variable {s t u : State} {n m : Nat} {ws vs : List Word}

theorem trans (h : Trace s n ws t) (k : Trace t m vs u) : Trace s (n + m) (ws ++ vs) u := by
  induction k with
  | start => simpa using h
  | cpu _ e ih => exact ih.cpu e
  | idle _ e ih => exact ih.idle e
  | read _ e ih => exact ih.read e
  | write _ e ih => exact List.append_assoc .. ▸ ih.write e

/-- Each cycle calls the callback once (R152). -/
theorem called (h : Trace s n ws t) : Called n s t := by
  induction h with
  | start => exact .zero s
  | cpu _ e ih =>
    rw [e]
    exact ih.congr rfl rfl rfl
  | idle _ e ih => exact ih.trans (cycle_called e)
  | read _ e ih => exact ih.trans (memRead_called e)
  | write _ e ih => exact ih.trans (memWrite_called e)

end Trace

/-! ### A reasoning rule for each operation -/

/-- `r` is the answer of an operation of `n` machine cycles from `s` with writes at `ws`: what it answers has `P`, and
on a platform with no hole it does answer (R73). -/
structure Does {α : Type} (n : Nat) (ws : List Word) (s : State) (r : Res α) (P : α → State → Prop) : Prop where
  ok : ∀ v t, r = .ok v t → Trace s n ws t ∧ P v t
  total : FullyMapped s.cfg → ∃ v t, r = .ok v t

namespace Does

variable {α β : Type} {s t : State} {n m : Nat} {ws vs : List Word} {r : Res α} {P : α → State → Prop}
  {Q : β → State → Prop} {f : α → State → Res β}

theorem imp (h : Does n ws s r P) {P' : α → State → Prop} (hP : ∀ v t, P v t → P' v t) : Does n ws s r P' :=
  ⟨fun v t e => ⟨(h.ok v t e).1, hP v t (h.ok v t e).2⟩, h.total⟩

theorem ret {v : α} (e : t = s.withCpu t) (p : P v t) : Does 0 [] s (.ok v t) P :=
  ⟨fun _ _ e' => by cases e'; exact ⟨.cpu .start e, p⟩, fun _ => ⟨v, t, rfl⟩⟩

theorem bind (h : Does n ws s r P) (hf : ∀ v t, P v t → Does m vs t (f v t) Q) :
    Does (m + n) (ws ++ vs) s (r.bind f) Q := by
  refine ⟨fun w u e => ?_, fun hs => ?_⟩
  · obtain ⟨v, t, e1, e2⟩ := bind_eq_ok.mp e
    obtain ⟨first, p⟩ := h.ok v t e1
    obtain ⟨rest, q⟩ := (hf v t p).ok w u e2
    exact ⟨Nat.add_comm n m ▸ first.trans rest, q⟩
  · obtain ⟨v, t, e1⟩ := h.total hs
    obtain ⟨first, p⟩ := h.ok v t e1
    obtain ⟨w, u, e2⟩ := (hf v t p).total (first.called.cfg ▸ hs)
    exact ⟨w, u, by rw [e1, bind_ok, e2]⟩

/-- The CPU may change its own part before the cycles. -/
theorem after_cpu (h : Does n ws t r P) (e : t = s.withCpu t) : Does n ws s r P := by
  refine ⟨fun v u hr => ?_, fun hs => h.total (e ▸ hs)⟩
  obtain ⟨trace, p⟩ := h.ok v u hr
  exact ⟨by simpa using (Trace.start.cpu e).trans trace, p⟩

/-- The CPU may change its own part after the cycles. -/
theorem then_ret (h : Does n ws s r P) {g : α → State → State} {v : α → β} (cpu : ∀ v t, g v t = t.withCpu (g v t))
    (post : ∀ w t, P w t → Q (v w) (g w t)) : Does n ws s (r.bind fun w t => .ok (v w) (g w t)) Q := by
  simpa using h.bind fun w t p => ret (cpu w t) (post w t p)

end Does

theorem SameCpu.withSp {s t : State} (h : SameCpu s t) (v : Word) : SameCpu { s with sp := v } { t with sp := v } :=
  { h with sp := rfl }

section
variable (s : State)

theorem does_internal : Does 1 [] s (internal s) fun _ => SameCpu s :=
  ⟨fun _ _ e => ⟨.idle .start e, internal_sameCpu e⟩, fun hs => ⟨(), internal_total hs⟩⟩

theorem does_memRead (a : Word) : Does 1 [] s (memRead a s) fun _ => SameCpu s :=
  ⟨fun _ _ e => ⟨.read .start e, memRead_sameCpu e⟩, fun hs => memRead_total hs a⟩

theorem does_memWrite (a : Word) (v : Byte) : Does 1 [a] s (memWrite a v s) fun _ => SameCpu s :=
  ⟨fun _ _ e => ⟨.write .start e, memWrite_sameCpu e⟩, fun hs => ⟨(), memWrite_total hs a v⟩⟩

theorem does_internals (n : Nat) : Does n [] s (internals n s) fun _ => SameCpu s := by
  induction n generalizing s with
  | zero => exact .ret rfl (.refl s)
  | succ n ih => exact (does_internal s).bind fun _ t same => (ih t).imp fun _ _ same' => same.trans same'

theorem does_push16 (w : Word) :
    Does 2 [s.sp - 1, s.sp - 2] s (push16 w s) fun _ => SameCpu { s with sp := s.sp - 2 } := by
  rw [push16_eq]
  refine (does_memWrite { s with sp := s.sp - 1 } _ _).after_cpu rfl |>.bind fun _ t same => ?_
  refine (does_memWrite { t with sp := s.sp - 2 } _ _).after_cpu rfl |>.imp fun _ u same' => ?_
  exact (same.withSp _).trans same'

theorem does_pop16 : Does 2 [] s (pop16 s) fun _ => SameCpu { s with sp := s.sp + 2 } := by
  rw [pop16_eq]
  refine (does_memRead s _).bind fun _ t same => ?_
  refine (does_memRead { t with sp := s.sp + 1 } _).after_cpu rfl |>.then_ret
    (g := fun _ u => { u with sp := s.sp + 2 }) (fun _ _ => rfl) fun _ u same' => ?_
  exact (same.withSp _).trans (same'.withSp _)

theorem does_returnTo :
    Does 3 [] s (returnTo s) fun _ t => ∃ pc, SameCpu { s with sp := s.sp + 2, pc := pc } t :=
  (does_pop16 s).bind fun v t same =>
    (does_internal t).then_ret (fun _ _ => rfl) fun _ _ same' => ⟨v, { same.trans same' with pc := rfl }⟩

/-- An internal cycle and a push, as CALL, RST and PUSH begin. -/
theorem does_internal_push16 (value : State → Word) :
    Does 3 [s.sp - 1, s.sp - 2] s ((internal s).bind fun _ t => push16 (value t) t) fun _ =>
      SameCpu { s with sp := s.sp - 2 } := by
  refine (does_internal s).bind fun _ t same => ?_
  rw [← same.sp]
  refine (does_push16 t _).imp fun _ u same' => ?_
  exact (same.withSp _).trans same'

end

end Sys2Proof.Machine
end

section
/-! The frame of an instruction (10_state.md sections 1 to 5): the registers, flags and control state it leaves alone,
with its machine cycles and stores. One case analysis over the shapes says all of it. -/

namespace Sys2Proof.Machine

/-! ### What an instruction leaves alone -/

/-- From `s` to `t` no 8-bit register outside `regs` changes, the flags do not unless `fl` says so, SP becomes `sp`,
and IME, the EI delay, the run state, the fault, the fetch address and the platform stay. -/
structure Leaves (regs : Reg8 → Bool) (fl : Bool) (sp : Word) (s t : State) : Prop where
  reg : ∀ r, regs r = false → t.reg r = s.reg r
  flags : fl = false → t.flags = s.flags
  sp : t.sp = sp
  ime : t.ime = s.ime
  imePending : t.imePending = s.imePending
  runState : t.runState = s.runState
  fault : t.fault = s.fault
  opPc : t.opPc = s.opPc
  cfg : t.cfg = s.cfg

namespace Leaves

variable {regs : Reg8 → Bool} {fl : Bool} {sp : Word} {s t : State}

theorem of_same {pc : Word} (h : SameCpu { s with sp := sp, pc := pc } t) : Leaves regs fl sp s t :=
  { h with
    reg := fun r _ => (h.reg r).trans (by cases r <;> rfl)
    flags := fun _ => h.flags }

theorem of_sameCpu (h : SameCpu s t) : Leaves regs fl s.sp s t := of_same (pc := s.pc) h

theorem refl (s : State) : Leaves regs fl s.sp s s := of_sameCpu (.refl s)

theorem setReg (h : Leaves regs fl sp s t) {r : Reg8} (hr : regs r = true) (v : Byte) :
    Leaves regs fl sp s (t.setReg r v) := by
  refine ⟨fun q hq => ?_, fun hf => ?_, ?_, ?_, ?_, ?_, ?_, ?_, ?_⟩
  · have ne : q ≠ r := fun e => by simp [e, hr] at hq
    rw [reg_setReg_ne ne, h.reg q hq]
  · rw [setReg_flags, h.flags hf]
  all_goals simp [h.sp, h.ime, h.imePending, h.runState, h.fault, h.opPc, h.cfg]

/-- The registers of the instructions that write the one they name. -/
theorem setOwn {r : Reg8} (h : Leaves (Shape.incReg r).writesReg fl sp s t) (v : Byte) :
    Leaves (Shape.incReg r).writesReg fl sp s (t.setReg r v) := h.setReg (beq_self_eq_true r) v

theorem withFlags (h : Leaves regs true sp s t) (f : Flags) : Leaves regs true sp s { t with flags := f } :=
  { h with
    reg := fun r hr => .trans (by cases r <;> rfl) (h.reg r hr)
    flags := nofun }

theorem withSameFlags (h : Leaves regs fl sp s t) : Leaves regs fl sp s { t with flags := s.flags } :=
  { h with
    reg := fun r hr => .trans (by cases r <;> rfl) (h.reg r hr)
    flags := fun _ => rfl }

theorem withPc (h : Leaves regs fl sp s t) (pc : Word) : Leaves regs fl sp s { t with pc := pc } :=
  { h with reg := fun r hr => .trans (by cases r <;> rfl) (h.reg r hr) }

theorem withSp (h : Leaves regs fl sp s t) {sp' v : Word} (e : v = sp') : Leaves regs fl sp' s { t with sp := v } :=
  { h with
    sp := e
    reg := fun r hr => .trans (by cases r <;> rfl) (h.reg r hr) }

theorem setBc (h : Leaves regs fl sp s t) (hb : regs .b = true) (hc : regs .c = true) (v : Word) :
    Leaves regs fl sp s (t.setBc v) := (h.setReg hb (hiByte v)).setReg hc (loByte v)

theorem setDe (h : Leaves regs fl sp s t) (hd : regs .d = true) (he : regs .e = true) (v : Word) :
    Leaves regs fl sp s (t.setDe v) := (h.setReg hd (hiByte v)).setReg he (loByte v)

theorem setHl (h : Leaves regs fl sp s t) (hh : regs .h = true) (hl : regs .l = true) (v : Word) :
    Leaves regs fl sp s (t.setHl v) := (h.setReg hh (hiByte v)).setReg hl (loByte v)

/-- An ALU operation writes A, but for CP, and the flags. -/
theorem applyAlu {op : AluOp} (h : Leaves (Shape.aluHl op).writesReg true sp s t) (v : Byte) :
    Leaves (Shape.aluHl op).writesReg true sp s (applyAlu op v t) := by
  cases op with
  | cp => exact h.withFlags _
  | _ => exact (h.setReg (r := .a) rfl _).withFlags _

theorem setPair {p : RegDd} (h : Leaves (Shape.incPair p).writesReg fl s.sp s t) {v : Word}
    (e : (if p = .sp then v else s.sp) = sp) : Leaves (Shape.incPair p).writesReg fl sp s (t.setPair p v) := by
  cases p with
  | bc => exact e ▸ h.setBc rfl rfl v
  | de => exact e ▸ h.setDe rfl rfl v
  | hl => exact e ▸ h.setHl rfl rfl v
  | sp => exact h.withSp e

theorem setStackPair {q : RegQq} (h : Leaves (Shape.pop q).writesReg (Shape.pop q).writesFlags sp s t) (v : Word) :
    Leaves (Shape.pop q).writesReg (Shape.pop q).writesFlags sp s (t.setStackPair q v) := by
  cases q with
  | bc => exact h.setBc rfl rfl v
  | de => exact h.setDe rfl rfl v
  | hl => exact h.setHl rfl rfl v
  | af => exact (h.setReg (r := .a) rfl _).withFlags _

end Leaves

/-- The instructions that write IME, the EI delay or the run state (R38, R39, R43). -/
def writesControl (sh : Shape) : Bool :=
  match sh with
  | .di | .ei | .reti | .halt | .stop => true
  | _ => false

/-- What the statements about registers, flags and control state say of an instruction of shape `sh`. -/
structure Frame (sh : Shape) (s t : State) : Prop where
  reg : ∀ r, sh.writesReg r = false → t.reg r = s.reg r
  flags : sh.writesFlags = false → t.flags = s.flags
  sp : t.sp = sh.spAfter s
  ime : t.ime = (if sh = .di then false else if sh = .reti then true else s.ime)
  imePending : t.imePending = (if sh = .di ∨ sh = .reti then false
    else if sh = .ei then s.imePending || !s.ime else s.imePending)
  runState : t.runState = (if sh = .stop then .stopped
    else if sh = .halt then (if s.ime = false ∧ pending s = true then .haltedBug else .halted)
    else s.runState)
  fault : t.fault = s.fault
  opPc : t.opPc = s.opPc
  cfg : t.cfg = s.cfg

theorem frame_of_leaves {sh : Shape} {s t : State} (h : Leaves sh.writesReg sh.writesFlags (sh.spAfter s) s t)
    (plain : writesControl sh = false := by rfl) : Frame sh s t := by
  have other {x : Shape} (hx : writesControl x = true) : sh ≠ x := fun e => by simp [e, hx] at plain
  have di : sh ≠ .di := other rfl
  have reti : sh ≠ .reti := other rfl
  exact
    { h with
      ime := by rw [if_neg di, if_neg reti, h.ime]
      imePending := by rw [if_neg (not_or_intro di reti), if_neg (other rfl), h.imePending]
      runState := by rw [if_neg (other rfl), if_neg (other rfl), h.runState] }

/-! ### Instructions as operations -/

/-- `o` is the outcome of an operation that `Does` describes. -/
def Completes (n : Nat) (ws : List Word) (s : State) (o : Out) (Q : State → Prop) : Prop :=
  ∃ r : Res Unit, o = r.out ∧ Does n ws s r fun _ => Q

theorem Does.out {n : Nat} {ws : List Word} {s : State} {r : Res Unit} {Q : State → Prop}
    (h : Does n ws s r fun _ => Q) : Completes n ws s r.out Q := ⟨r, rfl, h⟩

theorem Completes.next {s t : State} {Q : State → Prop} (e : t = s.withCpu t) (q : Q t) :
    Completes 0 [] s (.next t) Q := (Does.ret (v := ()) (P := fun _ => Q) e q).out

section
variable {s : State} {Q : State → Prop}

theorem setReg_eq_withCpu (r : Reg8) (v : Byte) (t : State) : t.setReg r v = t.withCpu (t.setReg r v) := by
  cases r <;> rfl

theorem setReg_flags_eq_withCpu (r : Reg8) (v : Byte) (f : Flags) (t : State) :
    ({ t.setReg r v with flags := f } : State) = t.withCpu { t.setReg r v with flags := f } := by cases r <;> rfl

theorem setPair_eq_withCpu (p : RegDd) (v : Word) (t : State) : t.setPair p v = t.withCpu (t.setPair p v) := by
  cases p <;> rfl

theorem setStackPair_eq_withCpu (q : RegQq) (v : Word) (t : State) :
    t.setStackPair q v = t.withCpu (t.setStackPair q v) := by cases q <;> rfl

theorem modifyHl_completes (f : Byte → Flags → Byte × Flags)
    (q : ∀ v t, SameCpu s t → Q { t with flags := (f v s.flags).2 }) : Completes 2 [s.hl] s (modifyHl f s) Q := by
  refine Does.out <| (does_memRead s _).bind fun v t same => ?_
  rw [← same.hl]
  refine (does_memWrite t _ _).then_ret (g := fun _ u => { u with flags := (f v t.flags).2 })
    (fun _ _ => rfl) fun _ u same' => ?_
  rw [same.flags]
  exact q v u (same.trans same')

theorem jumpTo_completes (target : Word) (q : ∀ t, SameCpu s t → Q { t with pc := target }) :
    Completes 1 [] s (jumpTo target s) Q :=
  Does.out <| (does_internal s).then_ret (fun _ _ => rfl) fun _ => q

theorem callTo_completes (target : Word)
    (q : ∀ t, SameCpu { s with sp := s.sp - 2 } t → Q { t with pc := target }) :
    Completes 3 [s.sp - 1, s.sp - 2] s (callTo target s) Q := by
  rw [callTo, ← bind_assoc]
  exact Does.out <| (does_internal_push16 s _).then_ret (fun _ _ => rfl) fun _ => q

theorem loadA_completes (a : Word) (q : ∀ v t, SameCpu s t → Q (t.setReg .a v)) : Completes 1 [] s (loadA a s) Q :=
  Does.out <| (does_memRead s a).then_ret (fun _ _ => rfl) q

theorem storeByte_completes (a : Word) (v : Byte) (q : ∀ t, SameCpu s t → Q t) :
    Completes 1 [a] s (storeByte a v s) Q := Does.out <| (does_memWrite s a v).imp fun _ => q

theorem loadAThenHl_completes (w : Word) (q : ∀ v t, SameCpu s t → Q ((t.setReg .a v).setHl w)) :
    Completes 1 [] s (loadAThenHl w s) Q :=
  Does.out <| (does_memRead s _).then_ret (fun _ _ => rfl) q

theorem storeAThenHl_completes (w : Word) (q : ∀ t, SameCpu s t → Q (t.setHl w)) :
    Completes 1 [s.hl] s (storeAThenHl w s) Q :=
  Does.out <| (does_memWrite s _ _).then_ret (fun _ _ => rfl) fun _ => q

end

/-! ### Control state -/

theorem frame_halt {s : State} {r : RunState}
    (e : r = if s.ime = false ∧ pending s = true then .haltedBug else .halted) :
    Frame .halt s { s with runState := r } :=
  ⟨fun r _ => by cases r <;> rfl, fun _ => rfl, rfl, rfl, rfl, e, rfl, rfl, rfl⟩

theorem frame_stop (s : State) : Frame .stop s { s with pc := s.pc + 1, runState := .stopped } :=
  ⟨fun r _ => by cases r <;> rfl, fun _ => rfl, rfl, rfl, rfl, rfl, rfl, rfl, rfl⟩

theorem frame_di (s : State) : Frame .di s { s with ime := false, imePending := false } :=
  ⟨fun r _ => by cases r <;> rfl, fun _ => rfl, rfl, rfl, rfl, rfl, rfl, rfl, rfl⟩

theorem frame_ei {s : State} {p : Bool} (e : p = (s.imePending || !s.ime)) :
    Frame .ei s { s with imePending := p } :=
  ⟨fun r _ => by cases r <;> rfl, fun _ => rfl, rfl, rfl, e, rfl, rfl, rfl, rfl⟩

theorem frame_reti {s t : State} {pc : Word} (h : SameCpu { s with sp := s.sp + 2, pc := pc } t) :
    Frame .reti s { t with ime := true, imePending := false } :=
  ⟨fun r _ => .trans (by cases r <;> rfl) ((h.reg r).trans (by cases r <;> rfl)), fun _ => h.flags, h.sp, rfl, rfl,
    h.runState, h.fault, h.opPc, h.cfg⟩

/-! ### Every instruction -/

/-- Every instruction but the CB byte by itself and the illegal opcodes: its machine cycles after the fetch, its stores,
and what it leaves alone. -/
theorem execShape_completes {sh : Shape} (notPrefix : sh ≠ .cbPrefix) (legal : ∀ op, sh ≠ .illegal op) (s : State) :
    Completes (sh.cycles s.cfg s.flags - fetchLength sh) (sh.storeAddrs s) s (execShape sh s) (Frame sh s) := by
  have same {regs fl t} (h : SameCpu s t) : Leaves regs fl s.sp s t := .of_sameCpu h
  have kept {regs fl} : Leaves regs fl s.sp s s := .refl s
  cases sh with
  | aluReg op r => exact .next rfl (frame_of_leaves (kept.applyAlu _))
  | aluHl op =>
    exact Does.out <| (does_memRead s _).then_ret (fun _ _ => rfl) fun _ _ h => frame_of_leaves ((same h).applyAlu _)
  | aluImm op n => exact .next rfl (frame_of_leaves (kept.applyAlu _))
  | incReg r => exact .next (setReg_flags_eq_withCpu r _ _ s) (frame_of_leaves ((kept.setOwn _).withFlags _))
  | incHl => exact modifyHl_completes _ fun _ _ h => frame_of_leaves ((same h).withFlags _)
  | decReg r => exact .next (setReg_flags_eq_withCpu r _ _ s) (frame_of_leaves ((kept.setOwn _).withFlags _))
  | decHl => exact modifyHl_completes _ fun _ _ h => frame_of_leaves ((same h).withFlags _)
  | daa => exact .next rfl (frame_of_leaves ((kept.setReg (r := .a) rfl _).withFlags _))
  | cpl => exact .next rfl (frame_of_leaves ((kept.setReg (r := .a) rfl _).withFlags _))
  | scf => exact .next rfl (frame_of_leaves (kept.withFlags _))
  | ccf => exact .next rfl (frame_of_leaves (kept.withFlags _))
  | addHl p =>
    exact Does.out <| (does_internal s).then_ret (fun _ _ => rfl) fun _ _ h =>
      frame_of_leaves (((same h).setHl rfl rfl _).withFlags _)
  | incPair p =>
    refine Does.out <| (does_internal s).then_ret (fun _ _ => setPair_eq_withCpu ..) fun _ t h => ?_
    rw [h.pair]
    exact frame_of_leaves ((same h).setPair (by cases p <;> rfl))
  | decPair p =>
    refine Does.out <| (does_internal s).then_ret (fun _ _ => setPair_eq_withCpu ..) fun _ t h => ?_
    rw [h.pair]
    exact frame_of_leaves ((same h).setPair (by cases p <;> rfl))
  | addSp e =>
    exact Does.out <| (does_internals s 2).then_ret (fun _ _ => rfl) fun _ _ h =>
      frame_of_leaves (((same h).withSp (sp' := s.sp + e.signExtend 16)
        (congrArg Prod.fst (addE8_eq s.sp e))).withFlags (addE8 s.sp e).2)
  | ldHlSp e =>
    show Completes (2 + ldhlInternalCycles s.cfg - 2) [] s _ _
    rw [Nat.add_sub_cancel_left]
    exact Does.out <| (does_internals s _).then_ret (fun _ _ => rfl) fun _ _ h =>
      frame_of_leaves (((same h).setHl rfl rfl _).withFlags _)
  | rotAcc op => exact .next rfl (frame_of_leaves ((kept.setReg (r := .a) rfl _).withFlags _))
  | rotReg op r => exact .next (setReg_flags_eq_withCpu r _ _ s) (frame_of_leaves ((kept.setOwn _).withFlags _))
  | rotHl op => exact modifyHl_completes _ fun _ _ h => frame_of_leaves ((same h).withFlags _)
  | bitReg b r => exact .next rfl (frame_of_leaves (kept.withFlags _))
  | bitHl b =>
    exact Does.out <| (does_memRead s _).then_ret (fun _ _ => rfl) fun _ _ h => frame_of_leaves ((same h).withFlags _)
  | resReg b r => exact .next (setReg_eq_withCpu r _ s) (frame_of_leaves (kept.setOwn _))
  | resHl b => exact modifyHl_completes _ fun _ _ h => frame_of_leaves (same h).withSameFlags
  | setReg b r => exact .next (setReg_eq_withCpu r _ s) (frame_of_leaves (kept.setOwn _))
  | setHl b => exact modifyHl_completes _ fun _ _ h => frame_of_leaves (same h).withSameFlags
  | jp nn => exact jumpTo_completes nn fun _ h => frame_of_leaves ((same h).withPc _)
  | jpIf cc nn =>
    by_cases taken : cond cc s.flags = true
    · simp only [execShape, jumpAbsIf, Shape.cycles, if_pos taken]
      exact jumpTo_completes nn fun _ h => frame_of_leaves ((same h).withPc _)
    · simp only [execShape, jumpAbsIf, Shape.cycles, if_neg taken]
      exact .next rfl (frame_of_leaves kept)
  | jpHl => exact .next rfl (frame_of_leaves (kept.withPc _))
  | jr e => exact jumpTo_completes _ fun _ h => frame_of_leaves ((same h).withPc _)
  | jrIf cc e =>
    by_cases taken : cond cc s.flags = true
    · simp only [execShape, jumpRelIf, Shape.cycles, if_pos taken]
      exact jumpTo_completes _ fun _ h => frame_of_leaves ((same h).withPc _)
    · simp only [execShape, jumpRelIf, Shape.cycles, if_neg taken]
      exact .next rfl (frame_of_leaves kept)
  | call nn => exact callTo_completes nn fun _ h => frame_of_leaves ((Leaves.of_same h).withPc _)
  | callIf cc nn =>
    by_cases taken : cond cc s.flags = true
    · have sp : (Shape.callIf cc nn).spAfter s = s.sp - 2 := if_pos taken
      simp only [execShape, callAbsIf, Shape.cycles, Shape.storeAddrs, if_pos taken]
      exact callTo_completes nn fun _ h => frame_of_leaves (sp ▸ (Leaves.of_same h).withPc nn)
    · have sp : (Shape.callIf cc nn).spAfter s = s.sp := if_neg taken
      simp only [execShape, callAbsIf, Shape.cycles, Shape.storeAddrs, if_neg taken]
      exact .next rfl (frame_of_leaves (sp ▸ kept))
  | ret => exact Does.out <| (does_returnTo s).imp fun _ _ ⟨_, h⟩ => frame_of_leaves (Leaves.of_same h)
  | retIf cc =>
    by_cases taken : cond cc s.flags = true
    · have sp : (Shape.retIf cc).spAfter s = s.sp + 2 := if_pos taken
      simp only [execShape, returnIf, Shape.cycles, if_pos taken]
      refine Does.out <| (does_internal s).bind fun _ t h => (does_returnTo t).imp fun _ u ⟨pc, h'⟩ => ?_
      have popped : SameCpu { s with sp := s.sp + 2, pc := pc } { t with sp := t.sp + 2, pc := pc } :=
        { h with sp := congrArg (· + 2) h.sp, pc := rfl }
      exact frame_of_leaves (sp ▸ Leaves.of_same (popped.trans h'))
    · have sp : (Shape.retIf cc).spAfter s = s.sp := if_neg taken
      simp only [execShape, returnIf, Shape.cycles, if_neg taken]
      exact Does.out <| (does_internal s).then_ret (g := fun _ t => t) (fun _ _ => rfl) fun _ _ h =>
        frame_of_leaves (sp ▸ same h)
  | reti => exact Does.out <| (does_returnTo s).then_ret (fun _ _ => rfl) fun _ _ ⟨_, h⟩ => frame_reti h
  | rst n => exact callTo_completes _ fun _ h => frame_of_leaves ((Leaves.of_same h).withPc _)
  | push q => exact Does.out <| (does_internal_push16 s _).imp fun _ _ h => frame_of_leaves (Leaves.of_same h)
  | pop q =>
    exact Does.out <| (does_pop16 s).then_ret (fun _ _ => setStackPair_eq_withCpu ..) fun _ _ h =>
      frame_of_leaves ((Leaves.of_same h).setStackPair _)
  | ldSpHl =>
    exact Does.out <| (does_internal s).then_ret (fun _ _ => rfl) fun _ _ h => frame_of_leaves ((same h).withSp h.hl)
  | ldNnSp nn =>
    exact Does.out <| (does_memWrite s _ _).bind fun _ t h =>
      (does_memWrite t _ _).imp fun _ _ h' => frame_of_leaves (same (h.trans h'))
  | ldPair p nn => exact .next (setPair_eq_withCpu p nn s) (frame_of_leaves (kept.setPair rfl))
  | ldReg r r' => exact .next (setReg_eq_withCpu r _ s) (frame_of_leaves (kept.setOwn _))
  | ldRegImm r n => exact .next (setReg_eq_withCpu r n s) (frame_of_leaves (kept.setOwn n))
  | ldRegHl r =>
    exact Does.out <| (does_memRead s _).then_ret (fun _ _ => setReg_eq_withCpu ..) fun _ _ h =>
      frame_of_leaves ((same h).setOwn _)
  | ldHlReg r => exact storeByte_completes _ _ fun _ h => frame_of_leaves (same h)
  | ldHlImm n => exact storeByte_completes _ _ fun _ h => frame_of_leaves (same h)
  | ldABc => exact loadA_completes _ fun _ _ h => frame_of_leaves ((same h).setReg rfl _)
  | ldADe => exact loadA_completes _ fun _ _ h => frame_of_leaves ((same h).setReg rfl _)
  | ldBcA => exact storeByte_completes _ _ fun _ h => frame_of_leaves (same h)
  | ldDeA => exact storeByte_completes _ _ fun _ h => frame_of_leaves (same h)
  | ldAHlInc => exact loadAThenHl_completes _ fun _ _ h => frame_of_leaves (((same h).setReg rfl _).setHl rfl rfl _)
  | ldAHlDec => exact loadAThenHl_completes _ fun _ _ h => frame_of_leaves (((same h).setReg rfl _).setHl rfl rfl _)
  | ldHlIncA => exact storeAThenHl_completes _ fun _ h => frame_of_leaves ((same h).setHl rfl rfl _)
  | ldHlDecA => exact storeAThenHl_completes _ fun _ h => frame_of_leaves ((same h).setHl rfl rfl _)
  | ldANn nn => exact loadA_completes _ fun _ _ h => frame_of_leaves ((same h).setReg rfl _)
  | ldNnA nn => exact storeByte_completes _ _ fun _ h => frame_of_leaves (same h)
  | ldhAN n => exact loadA_completes _ fun _ _ h => frame_of_leaves ((same h).setReg rfl _)
  | ldhNA n => exact storeByte_completes _ _ fun _ h => frame_of_leaves (same h)
  | ldhAC => exact loadA_completes _ fun _ _ h => frame_of_leaves ((same h).setReg rfl _)
  | ldhCA => exact storeByte_completes _ _ fun _ h => frame_of_leaves (same h)
  | nop => exact .next rfl (frame_of_leaves kept)
  | halt =>
    simp only [execShape, haltCpu]
    split
    · exact .next rfl (frame_halt (by simp [*]))
    · split
      · exact .next rfl (frame_halt (by simp_all))
      · exact .next rfl (frame_halt (by simp_all))
  | stop => exact .next rfl (frame_stop s)
  | di => exact .next rfl (frame_di s)
  | ei =>
    simp only [execShape, enableInterrupts]
    split
    · exact .next rfl (frame_ei (by simp [*]))
    · exact .next rfl (frame_ei (by simp_all))
  | cbPrefix => exact absurd rfl notPrefix
  | illegal op => exact absurd rfl (legal op)

end Sys2Proof.Machine
end

section
/-! What every instruction keeps (10_state.md, 20_memory.md), how long it takes (70_reset_and_hazards.md section 4), and that
it completes (60_exceptions.md section 1), read off its cycles and its frame. -/

namespace Sys2Proof.Machine

/-! ### An instruction that runs to a next state -/

theorem exec_completes {i : Instr} (wf : i.wellFormed = true) (legal : i.legal = true) (s : State) :
    Completes (i.shape.cycles s.cfg s.flags - i.fetchedBytes) (i.shape.storeAddrs s) s (exec i s)
      (Frame i.shape s) := by
  rw [fetchedBytes_eq, exec_eq]
  exact execShape_completes (shape_ne_cbPrefix wf) (fun op e => by simp [Instr.legal, e] at legal) s

/-- An instruction that is not legal has one of the eleven opcodes (R128). -/
theorem shape_of_not_legal {i : Instr} (h : i.legal = false) : ∃ op, i.shape = .illegal op := by
  unfold Instr.legal at h
  split at h
  · exact ⟨_, ‹_›⟩
  · exact nomatch h

theorem legal_of_exec_next {i : Instr} {s t : State} (h : exec i s = .next t) : i.legal = true := by
  by_contra illegal
  obtain ⟨op, e⟩ := shape_of_not_legal (by simpa using illegal)
  rw [exec_of_illegal e] at h
  exact nomatch h

theorem exec_next {i : Instr} {s t : State} (wf : i.wellFormed = true) (h : exec i s = .next t) :
    Trace s (i.shape.cycles s.cfg s.flags - i.fetchedBytes) (i.shape.storeAddrs s) t ∧ Frame i.shape s t := by
  obtain ⟨r, e, does⟩ := exec_completes wf (legal_of_exec_next h) s
  exact does.ok () t (out_eq_next.mp (e ▸ h))

/-- Settles O52. -/
theorem registerAndFlagFrame : Obligations.RegisterAndFlagFrame := by
  intro i s t wf h
  obtain ⟨-, frame⟩ := exec_next wf h
  exact ⟨frame.reg, frame.flags⟩

/-- Settles O53. -/
theorem controlStateFrame : Obligations.ControlStateFrame := by
  intro i s t wf h
  obtain ⟨-, frame⟩ := exec_next wf h
  exact ⟨frame.sp, frame.ime, frame.imePending, frame.runState, frame.fault, frame.opPc, frame.cfg⟩

/-! ### Machine cycles (R431) -/

theorem fetchLength_le_cycles (sh : Shape) (cfg : Config) (f : Flags) :
    fetchLength sh ≤ sh.cycles cfg f := by
  cases sh <;> simp [fetchLength, fieldEncoding, Shape.cycles] <;> split <;> decide

/-- Settles O55. -/
theorem machineCycles : Obligations.MachineCycles := by
  refine ⟨fun bug s t i h => ?_, fun i s t wf h => ⟨?_, ?_⟩⟩
  · have called := fetchInstr_called h
    rwa [Nat.add_sub_cancel' (fetchedBytes_pos i)] at called
  · rw [fetchedBytes_eq]
    exact fetchLength_le_cycles _ _ _
  · obtain ⟨trace, -⟩ := exec_next wf h
    exact trace.called

/-! ### Completing on a platform with no hole -/

theorem exec_total {i : Instr} {s : State} (wf : i.wellFormed = true) (legal : i.legal = true)
    (hs : FullyMapped s.cfg) : ∃ t, exec i s = .next t ∧ Frame i.shape s t := by
  obtain ⟨r, e, does⟩ := exec_completes wf legal s
  obtain ⟨_, t, ok⟩ := does.total hs
  exact ⟨t, e ▸ out_eq_next.mpr ok, (does.ok _ t ok).2⟩

/-- The CB byte by itself completes as the instruction of its row does. -/
theorem cbPrefix_total {s : State} (hs : FullyMapped s.cfg) :
    ∃ t, cbPrefix s = .next t ∧ t.cfg = s.cfg ∧ t.fault = s.fault := by
  obtain ⟨c, u, fetch⟩ := fetchByte_total hs
  have same := fetchByte_cpu fetch
  obtain ⟨-, wf, -, -, legal⟩ := cb_ok c
  obtain ⟨t, run, frame⟩ := exec_total wf legal (same.cfg ▸ hs : FullyMapped u.cfg)
  refine ⟨t, ?_, frame.cfg.trans same.cfg, frame.fault.trans same.fault⟩
  simp only [cbPrefix, fetch, runCbOpcode_eq, run]

/-- Settles O56. -/
theorem everyInstructionCompletes : Obligations.EveryInstructionCompletes := by
  intro i s legal hs
  by_cases wf : i.wellFormed = true
  · obtain ⟨t, run, frame⟩ := exec_total wf legal hs
    exact ⟨t, run, frame.cfg, frame.fault, fun _ => frame.sp⟩
  · have bare : i.shape = .cbPrefix := by simpa [Instr.wellFormed] using wf
    obtain ⟨t, run, cfg, fault⟩ := cbPrefix_total hs
    exact ⟨t, by rw [exec_of_shape bare]; exact run, cfg, fault, fun h => absurd h wf⟩

/-- `o` is a next state on platform `c`, or the stop of one of the eleven illegal opcodes (R371). -/
def Proceeds (c : Config) (o : Out) : Prop :=
  (∃ t, o = .next t ∧ t.cfg = c) ∨ ∃ op pc left, o = .fault (.illegalOpcode op pc left) ∧
    op ∈ ([0xD3, 0xDB, 0xDD, 0xE3, 0xE4, 0xEB, 0xEC, 0xED, 0xF4, 0xFC, 0xFD] : List Byte)

section
variable {s : State}

theorem exec_proceeds {i : Instr} (wf : i.wellFormed = true) (hs : FullyMapped s.cfg) :
    Proceeds s.cfg (exec i s) := by
  by_cases legal : i.legal = true
  · obtain ⟨t, run, frame⟩ := exec_total wf legal hs
    exact .inl ⟨t, run, frame.cfg⟩
  · obtain ⟨op, e⟩ := shape_of_not_legal (by simpa using legal)
    exact .inr ⟨op, _, _, exec_of_illegal e s, illegal_opcode_mem e⟩

theorem stepInstruction_proceeds (bug : Bool) (hs : FullyMapped s.cfg) :
    Proceeds s.cfg (stepInstruction exec bug s) := by
  obtain ⟨i, t, fetch⟩ := fetchInstr_total bug hs
  obtain ⟨_, same⟩ := fetchInstr_cpu fetch
  have cfg : t.cfg = s.cfg := same.cfg
  rw [stepInstruction_ok fetch, ← cfg]
  exact exec_proceeds (fetchInstr_wellFormed fetch) (cfg ▸ hs)

theorem internal_proceeds (hs : FullyMapped s.cfg) : Proceeds s.cfg (internal s).out := by
  obtain ⟨t, h⟩ := internal_total hs
  exact .inl ⟨t, out_eq_next.mpr h, (internal_sameCpu h).cfg⟩

theorem dispatch_proceeds (hs : FullyMapped s.cfg) : Proceeds s.cfg (dispatch s).out := by
  obtain ⟨t, h⟩ := dispatch_total hs
  exact .inl ⟨t, out_eq_next.mpr h, (dispatch_cpu h).cfg⟩

theorem tickBody_proceeds (hs : FullyMapped s.cfg) : Proceeds s.cfg (tickBody exec s) := by
  have waking (c : Prop) [Decidable c] :
      Proceeds s.cfg (if c then stepInstruction exec false (wake s) else (internal s).out) := by
    split
    · exact stepInstruction_proceeds (s := wake s) false hs
    · exact internal_proceeds hs
  unfold tickBody
  cases s.runState with
  | normal => exact stepInstruction_proceeds false hs
  | haltedBug => exact stepInstruction_proceeds true hs
  | halted => exact waking _
  | stopped => exact waking _

theorem endOfTick_proceeds {c : Config} {o : Out} (hc : FullyMapped c) (h : Proceeds c o) :
    Proceeds c (endOfTick o) := by
  obtain ⟨t, rfl, rfl⟩ | ⟨op, pc, left, rfl, mem⟩ := h
  · rw [endOfTick_next]
    split
    · exact dispatch_proceeds hc
    · exact .inl ⟨t, rfl, rfl⟩
  · exact .inr ⟨op, pc, left, rfl, mem⟩

end

/-- Settles O57. -/
theorem onlyIllegalOpcodesStop : Obligations.OnlyIllegalOpcodesStop := by
  intro s f hs
  have proceeds : Proceeds s.cfg (step s) := by
    cases d : dispatchable s with
    | true => exact step_dispatching f d ▸ dispatch_proceeds hs
    | false => exact step_running f d ▸ endOfTick_proceeds hs (tickBody_proceeds hs)
  exact proceeds.imp_left fun ⟨t, next, _⟩ => ⟨t, next⟩

/-! ### Memory on a quiet bus -/

section
variable {s t u : State} {a b : Word} {v : Byte}

/-- What an address of no peripheral reads is a matter of the CPU's own registers and the RAM. -/
theorem peek_congr (np : deviceMap s.cfg b ≠ some .peripheral) (cfg : t.cfg = s.cfg)
    (reg : deviceMap s.cfg b = some .cpu → cpuRegRead b t = cpuRegRead b s)
    (mem : Mem.read t.mem b.toNat = Mem.read s.mem b.toNat) :
    peek b t = peek b s := by
  unfold peek
  rw [cfg]
  cases owner : deviceMap s.cfg b with
  | none => rfl
  | some o =>
    cases o with
    | cpu => exact congrArg some (reg owner)
    | ram => exact congrArg some mem
    | peripheral => exact absurd owner np

/-- A write of one of the CPU's registers leaves the other two alone (R85 to R87). -/
theorem cpuRegRead_cpuRegWrite_ne (ha : deviceMap s.cfg a = some .cpu) (hb : deviceMap s.cfg b = some .cpu)
    (ne : b ≠ a) (v : Byte) : cpuRegRead b (cpuRegWrite a v s) = cpuRegRead b s := by
  rw [deviceMap_eq_cpu_iff] at ha hb
  rcases ha with rfl | rfl | rfl <;> rcases hb with rfl | rfl | rfl <;>
    simp [cpuRegRead, cpuRegWrite, ifAddr, dmaAddr, ieAddr] at ne ⊢

/-- The router stores at one address. -/
theorem peek_poke_ne (h : poke a v s = some t) (ne : b ≠ a) (np : deviceMap s.cfg b ≠ some .peripheral) :
    peek b t = peek b s := by
  cases owner : deviceMap s.cfg a with
  | none => simp [poke, owner] at h
  | some o =>
    simp only [poke, owner] at h
    cases o with
    | cpu =>
      cases h
      exact peek_congr np (cpuRegWrite_cfg a v s) (fun hb => cpuRegRead_cpuRegWrite_ne owner hb ne v) (by simp)
    | ram =>
      cases h
      exact peek_congr np rfl (fun _ => rfl) (read_write_other _ _ fun e => ne (BitVec.eq_of_toNat_eq e))
    | peripheral =>
      cases h
      exact peek_congr np rfl (fun _ => rfl) rfl

/-- A store arms a transfer only at the DMA register (R94). -/
theorem poke_dmaDelay (h : poke a v s = some t) : t.dmaDelay = s.dmaDelay ∨ a = dmaAddr ∧ t.dmaDelay = 4 := by
  obtain rfl | rfl | ⟨p, rfl⟩ := poke_cases h
  · unfold cpuRegWrite
    split
    · exact .inl rfl
    · split
      · exact .inr ⟨‹_›, rfl⟩
      · exact .inl rfl
  · exact .inl rfl
  · exact .inl rfl

end

/-- `n` cycles after a quiet bus, with the CPU's stores at `ws`: the callback does nothing, no byte has changed but
those at `ws`, and no transfer copies; one is armed only by a store to the DMA register, and starts three cycles after
that store's own (R96). -/
structure Calm (s : State) (n : Nat) (ws : List Word) (t : State) : Prop where
  idle : t.dmaActive = false
  ext : t.ext = []
  cfg : t.cfg = s.cfg
  delay : t.dmaDelay = 0 ∨ dmaAddr ∈ ws ∧ 4 ≤ t.dmaDelay + n
  kept : ∀ b, b ∉ ws → deviceMap s.cfg b ≠ some .peripheral → peek b t = peek b s

namespace Calm

variable {s t u : State} {n : Nat} {ws : List Word} {a : Word} {v : Byte}

theorem start (q : Quiet s) : Calm s 0 [] s := ⟨q.idle, q.noCallback, rfl, .inl q.unarmed, fun _ _ _ => rfl⟩

theorem quiet (h : Calm s n ws t) (q : Quiet s) (unarmed : dmaAddr ∉ ws) : Quiet t :=
  ⟨h.idle, h.delay.resolve_right fun ⟨armed, _⟩ => unarmed armed, h.ext, h.cfg ▸ q.noop⟩

/-- A cycle counts the delay down, and is over before the transfer starts. -/
theorem cycle (h : Calm s n ws t) (q : Quiet s) (early : dmaAddr ∈ ws → n ≤ 2) (e : cycle t = .ok () u) :
    Calm s (n + 1) ws u := by
  have waits : t.dmaDelay ≠ 1 := by
    rcases h.delay with zero | ⟨armed, long⟩
    · omega
    · have := early armed
      omega
  rw [cycle_waiting h.idle h.ext (h.cfg ▸ q.noop) waits] at e
  cases e
  exact
    { h with
      delay := by
        show t.dmaDelay - 1 = 0 ∨ _ ∧ 4 ≤ t.dmaDelay - 1 + (n + 1)
        rcases h.delay with zero | ⟨armed, long⟩
        · exact .inl (by omega)
        · exact .inr ⟨armed, by omega⟩ }

theorem busRead (h : Calm s n ws t) (e : busRead a t = .ok v u) : Calm s n ws u := by
  have free : cpuMayAccess a t = true := by simp [cpuMayAccess, h.idle]
  rw [Machine.busRead, if_pos free, routerRead] at e
  split at e
  · exact nomatch e
  · cases e
    refine ⟨by simpa using h.idle, by simpa using h.ext, by simpa using h.cfg, by simpa using h.delay, ?_⟩
    intro b outside np
    rw [← h.kept b outside np]
    exact peek_congr (h.cfg ▸ np) (by simp) (fun _ => by simp [cpuRegRead]) (by simp)

theorem busWrite (h : Calm s n ws t) (e : busWrite a v t = .ok () u) : Calm s n (ws ++ [a]) u := by
  have free : cpuMayAccess a t = true := by simp [cpuMayAccess, h.idle]
  rw [Machine.busWrite, if_pos free, routerWrite] at e
  split at e
  · exact nomatch e
  · rename_i stored
    cases e
    obtain ⟨ext, -, cfg⟩ := (callback_closed t).poke ⟨rfl, rfl, rfl⟩ stored
    refine ⟨(poke_dmaActive stored).trans h.idle, ext.trans h.ext, cfg.trans h.cfg, ?_, fun b outside np => ?_⟩
    · obtain same | ⟨rfl, four⟩ := poke_dmaDelay stored
      · rw [same]
        exact h.delay.imp_right fun ⟨armed, long⟩ => ⟨List.mem_append_left _ armed, long⟩
      · exact .inr ⟨by simp, by omega⟩
    · obtain ⟨old, ne⟩ : b ∉ ws ∧ b ≠ a := by simpa using outside
      rw [← h.kept b old np]
      exact peek_poke_ne stored ne (h.cfg ▸ np)

end Calm

/-- Few enough cycles keep the bus calm: a store to the DMA register starts no transfer within them. -/
theorem Trace.calm {s t : State} {n : Nat} {ws : List Word} (h : Trace s n ws t) (q : Quiet s)
    (short : dmaAddr ∈ ws → n ≤ 3) : Calm s n ws t := by
  induction h with
  | start => exact .start q
  | cpu _ e ih =>
    rw [e]
    exact { ih short with }
  | idle _ e ih =>
    have before := ih fun armed => Nat.le_of_succ_le (short armed)
    exact before.cycle q (fun armed => Nat.le_of_succ_le_succ (short armed)) e
  | read _ e ih =>
    obtain ⟨v, u, access, rest⟩ := bind_eq_ok.mp e
    obtain ⟨_, w, cycled, done⟩ := bind_eq_ok.mp rest
    cases done
    have before := ih fun armed => Nat.le_of_succ_le (short armed)
    exact (before.busRead access).cycle q (fun armed => Nat.le_of_succ_le_succ (short armed)) cycled
  | write _ e ih =>
    obtain ⟨_, u, access, cycled⟩ := bind_eq_ok.mp e
    have before := ih fun armed => Nat.le_of_succ_le (short (List.mem_append_left _ armed))
    exact (before.busWrite access).cycle q (fun armed => Nat.le_of_succ_le_succ (short armed)) cycled

/-- The instructions that store take at most three cycles after their fetch. -/
theorem cycles_le_of_store {sh : Shape} {s : State} {a : Word} (h : a ∈ sh.storeAddrs s) :
    sh.cycles s.cfg s.flags - fetchLength sh ≤ 3 := by
  cases sh with
  | retIf cc | ldHlSp e => exact nomatch h
  | jpIf cc nn | jrIf cc nn | callIf cc nn =>
    simp only [Shape.cycles]
    split <;> simp [fetchLength, fieldEncoding]
  | _ => simp [Shape.cycles, fetchLength, fieldEncoding]

/-- Settles O54. -/
theorem memoryFrame : Obligations.MemoryFrame := by
  intro i s t wf q h
  obtain ⟨trace, -⟩ := exec_next wf h
  have calm := trace.calm q fun armed => fetchedBytes_eq i ▸ cycles_le_of_store armed
  exact ⟨calm.kept, calm.quiet q⟩

end Sys2Proof.Machine
end
